-- ==== Sys2Proof/Word.lean ====
section
/-! DEFINITION. The words of the bus and the bank index, with the widths of 00_scope.md R9. -/

namespace Sys2Proof

/-- A 4-bit cell value, and the levels of the 4 data lines (R9 DATA_BITS, R27). -/
abbrev Nibble := BitVec 4

/-- A cell address within a bank (R9 ADDR_BITS). -/
abbrev Addr := BitVec 10

/-- The five active-low chip-select lines; bit i is the line of bank i (R9 CE_BITS, R63). -/
abbrev SelectCode := BitVec 5

/-- A Bus Sample packed as a SAMPLE20 word (R61). -/
abbrev SampleWord := BitVec 20

/-- The 8-bit container a cell is stored in (R9 CONTAINER_BITS). -/
abbrev Container := BitVec 8

/-- A bank index 0 to 4 (R9 NUM_BANKS). -/
abbrev Bank := Fin 5

end Sys2Proof
end

