-- ==== Sys2Proof/Syntax.lean ====
section
/-! DEFINITION. The whole syntax: the modes, the Bus Sample, the Observer's events, and Instr with one constructor for
each row of spec/opcode_table.json. -/

namespace Sys2Proof

/-- The engine's mode, st.mode (10_state.md R22). -/
inductive Mode where
  | idle
  | selRead
  | selWrite
  | selWriteDone
  | readSettle
deriving DecidableEq, Repr

/-- The direction of the four data pins, st.dir (10_state.md R25). -/
inductive Dir where
  | input
  | output
deriving DecidableEq, Repr

/-- A Bus Sample (30_encoding.md R60). The strobe is its level: true is high, deasserted (R65). -/
structure Sample where
  addr : Addr
  ce : SelectCode
  we : Bool
  data : Nibble
deriving DecidableEq, Repr

/-- The kind of a Select event (44_observer_interface.md R141). -/
inductive Access where
  | read
  | write
deriving DecidableEq, Repr

/-- The events the engine hands to the Observer (44_observer_interface.md R141). -/
inductive Event where
  | select (b : Bank) (kind : Access)
  | read (b : Bank) (a : Addr) (v : Nibble)
  | write (b : Bank) (a : Addr) (v : Nibble)
  | deselect (b : Bank)
deriving DecidableEq, Repr

/-- The operations of the hardware, one constructor for each row of spec/opcode_table.json. The rows of format CE5
(41_chip_select_decoder.md R90) and NOSAMPLE (43_bus_engine.md R120, R121) have no operand. A row of format SAMPLE20
(30_encoding.md R67) carries the sample that selects it. The rows of format PRIMITIVE (R72) carry the operands of
00_scope.md R13. -/
inductive Instr where
  | decode00000None
  | decode00001None
  | decode00010None
  | decode00011None
  | decode00100None
  | decode00101None
  | decode00110None
  | decode00111None
  | decode01000None
  | decode01001None
  | decode01010None
  | decode01011None
  | decode01100None
  | decode01101None
  | decode01110None
  | decode01111Bank4
  | decode10000None
  | decode10001None
  | decode10010None
  | decode10011None
  | decode10100None
  | decode10101None
  | decode10110None
  | decode10111Bank3
  | decode11000None
  | decode11001None
  | decode11010None
  | decode11011Bank2
  | decode11100None
  | decode11101Bank1
  | decode11110Bank0
  | decode11111None
  | idleDeselected (p : Sample)
  | enterReadB0 (p : Sample)
  | enterReadB1 (p : Sample)
  | enterReadB2 (p : Sample)
  | enterReadB3 (p : Sample)
  | enterReadB4 (p : Sample)
  | enterWriteB0 (p : Sample)
  | enterWriteB1 (p : Sample)
  | enterWriteB2 (p : Sample)
  | enterWriteB3 (p : Sample)
  | enterWriteB4 (p : Sample)
  | idleInvalid (p : Sample)
  | readDeselect (p : Sample)
  | readToWrite (p : Sample)
  | serveRead (p : Sample)
  | settleCount
  | settleRelease
  | writeDeselect (p : Sample)
  | writeHold (p : Sample)
  | writeCommit (p : Sample)
  | doneDeselect (p : Sample)
  | doneWait (p : Sample)
  | sample
  | setDir (d : Dir)
  | drive (v : Nibble)
  | decode (ce : SelectCode)
  | memRead (b : Bank) (a : Addr)
  | memWrite (b : Bank) (a : Addr) (v : Nibble)
  | emit (e : Event)
deriving DecidableEq, Repr

end Sys2Proof
end

