-- ==== Sys2Proof/WellFormed.lean ====
section
/-! DEFINITION. Well-formed instructions: a row of format SAMPLE20 carries a sample that meets the row's condition and the
condition of no earlier row of its mode (30_encoding.md R67). -/

namespace Sys2Proof

/-- The six codes with a row of their own in mode Idle: the deselect code and the five valid codes (30_encoding.md R64). -/
def namedCodes : List SelectCode := [0b11111#5, 0b11110#5, 0b11101#5, 0b11011#5, 0b10111#5, 0b01111#5]

/-- Whether the operands of an instruction are ones its row admits. -/
def Instr.wf : Instr → Bool
  | .decode00000None | .decode00001None | .decode00010None | .decode00011None | .decode00100None
  | .decode00101None | .decode00110None | .decode00111None | .decode01000None | .decode01001None
  | .decode01010None | .decode01011None | .decode01100None | .decode01101None | .decode01110None
  | .decode01111Bank4 | .decode10000None | .decode10001None | .decode10010None | .decode10011None
  | .decode10100None | .decode10101None | .decode10110None | .decode10111Bank3 | .decode11000None
  | .decode11001None | .decode11010None | .decode11011Bank2 | .decode11100None | .decode11101Bank1
  | .decode11110Bank0 | .decode11111None => true
  | .idleDeselected p => p.ce == 0b11111#5
  | .enterReadB0 p => p.ce == 0b11110#5 && p.we
  | .enterReadB1 p => p.ce == 0b11101#5 && p.we
  | .enterReadB2 p => p.ce == 0b11011#5 && p.we
  | .enterReadB3 p => p.ce == 0b10111#5 && p.we
  | .enterReadB4 p => p.ce == 0b01111#5 && p.we
  | .enterWriteB0 p => p.ce == 0b11110#5 && !p.we
  | .enterWriteB1 p => p.ce == 0b11101#5 && !p.we
  | .enterWriteB2 p => p.ce == 0b11011#5 && !p.we
  | .enterWriteB3 p => p.ce == 0b10111#5 && !p.we
  | .enterWriteB4 p => p.ce == 0b01111#5 && !p.we
  | .idleInvalid p => !(namedCodes.contains p.ce)
  | .readDeselect p => p.ce == 0b11111#5
  | .readToWrite p => p.ce != 0b11111#5 && !p.we
  | .serveRead p => p.ce != 0b11111#5 && p.we
  | .settleCount | .settleRelease => true
  | .writeDeselect p => p.ce == 0b11111#5
  | .writeHold p => p.ce != 0b11111#5 && !p.we
  | .writeCommit p => p.ce != 0b11111#5 && p.we
  | .doneDeselect p => p.ce == 0b11111#5
  | .doneWait p => p.ce != 0b11111#5
  | .sample | .setDir _ | .drive _ | .decode _ | .memRead _ _ | .memWrite _ _ _ | .emit _ => true

end Sys2Proof
end

