-- ==== Sys2Proof/Decode.lean ====
section
/-! DEFINITION. From bus words to instructions and back: the fields of a SAMPLE20 word, the Chip-Select Decoder's table,
the engine's decision table with its match and mask, the dispatcher of rule R110, and the encoder. -/

namespace Sys2Proof

/-- The SAMPLE20 word of a sample: addr | (ce << 10) | (we << 15) | (data << 16) (30_encoding.md R61). -/
def Sample.pack (p : Sample) : SampleWord :=
  p.addr.setWidth 20 ||| (p.ce.setWidth 20 <<< 10) ||| ((BitVec.ofBool p.we).setWidth 20 <<< 15) |||
    (p.data.setWidth 20 <<< 16)

/-- The sample a SAMPLE20 word stands for (30_encoding.md R61). -/
def Sample.unpack (w : SampleWord) : Sample where
  addr := w.extractLsb' 0 10
  ce := w.extractLsb' 10 5
  we := w.getLsbD 15
  data := w.extractLsb' 16 4

/-- The cell address of a raw address value: its low ten bits (30_encoding.md R62; log 19). -/
def maskAddr (raw : Nat) : Addr := BitVec.ofNat 10 raw

/-- The Chip-Select Decoder: the bank a select code names, if any (41_chip_select_decoder.md R90). -/
def selectBank (ce : SelectCode) : Option Bank :=
  if ce = 0b11110#5 then some 0
  else if ce = 0b11101#5 then some 1
  else if ce = 0b11011#5 then some 2
  else if ce = 0b10111#5 then some 3
  else if ce = 0b01111#5 then some 4
  else none

/-- The valid code of a bank: its own line low, the other four high (30_encoding.md R64). -/
def bankCode (b : Bank) : SelectCode := ~~~(1#5 <<< b.val)

/-- A row of the engine's decision table that takes a sample: its mode, match and mask (30_encoding.md R67). -/
structure SampleRow where
  mode : Mode
  matchBits : SampleWord
  maskBits : SampleWord
deriving DecidableEq, Repr

/-- Whether a word meets a row's match under its mask (30_encoding.md R67). -/
def SampleRow.accepts (r : SampleRow) (w : SampleWord) : Bool := w &&& r.maskBits == r.matchBits

/-- The row of each operation of format SAMPLE20, as spec/opcode_table.json gives it. -/
def Instr.sampleRow : Instr → Option SampleRow
  | .decode00000None | .decode00001None | .decode00010None | .decode00011None | .decode00100None
  | .decode00101None | .decode00110None | .decode00111None | .decode01000None | .decode01001None
  | .decode01010None | .decode01011None | .decode01100None | .decode01101None | .decode01110None
  | .decode01111Bank4 | .decode10000None | .decode10001None | .decode10010None | .decode10011None
  | .decode10100None | .decode10101None | .decode10110None | .decode10111Bank3 | .decode11000None
  | .decode11001None | .decode11010None | .decode11011Bank2 | .decode11100None | .decode11101Bank1
  | .decode11110Bank0 | .decode11111None => none
  | .idleDeselected _ => some ⟨.idle, 0x07C00, 0x07C00⟩
  | .enterReadB0 _ => some ⟨.idle, 0x0F800, 0x0FC00⟩
  | .enterReadB1 _ => some ⟨.idle, 0x0F400, 0x0FC00⟩
  | .enterReadB2 _ => some ⟨.idle, 0x0EC00, 0x0FC00⟩
  | .enterReadB3 _ => some ⟨.idle, 0x0DC00, 0x0FC00⟩
  | .enterReadB4 _ => some ⟨.idle, 0x0BC00, 0x0FC00⟩
  | .enterWriteB0 _ => some ⟨.idle, 0x07800, 0x0FC00⟩
  | .enterWriteB1 _ => some ⟨.idle, 0x07400, 0x0FC00⟩
  | .enterWriteB2 _ => some ⟨.idle, 0x06C00, 0x0FC00⟩
  | .enterWriteB3 _ => some ⟨.idle, 0x05C00, 0x0FC00⟩
  | .enterWriteB4 _ => some ⟨.idle, 0x03C00, 0x0FC00⟩
  | .idleInvalid _ => some ⟨.idle, 0x00000, 0x00000⟩
  | .readDeselect _ => some ⟨.selRead, 0x07C00, 0x07C00⟩
  | .readToWrite _ => some ⟨.selRead, 0x00000, 0x08000⟩
  | .serveRead _ => some ⟨.selRead, 0x00000, 0x00000⟩
  | .settleCount | .settleRelease => none
  | .writeDeselect _ => some ⟨.selWrite, 0x07C00, 0x07C00⟩
  | .writeHold _ => some ⟨.selWrite, 0x00000, 0x08000⟩
  | .writeCommit _ => some ⟨.selWrite, 0x00000, 0x00000⟩
  | .doneDeselect _ => some ⟨.selWriteDone, 0x07C00, 0x07C00⟩
  | .doneWait _ => some ⟨.selWriteDone, 0x00000, 0x00000⟩
  | .sample | .setDir _ | .drive _ | .decode _ | .memRead _ _ | .memWrite _ _ _ | .emit _ => none

/-- The select code of each operation of format CE5, as spec/opcode_table.json gives it. -/
def Instr.selectCode : Instr → Option SelectCode
  | .decode00000None => some 0b00000#5
  | .decode00001None => some 0b00001#5
  | .decode00010None => some 0b00010#5
  | .decode00011None => some 0b00011#5
  | .decode00100None => some 0b00100#5
  | .decode00101None => some 0b00101#5
  | .decode00110None => some 0b00110#5
  | .decode00111None => some 0b00111#5
  | .decode01000None => some 0b01000#5
  | .decode01001None => some 0b01001#5
  | .decode01010None => some 0b01010#5
  | .decode01011None => some 0b01011#5
  | .decode01100None => some 0b01100#5
  | .decode01101None => some 0b01101#5
  | .decode01110None => some 0b01110#5
  | .decode01111Bank4 => some 0b01111#5
  | .decode10000None => some 0b10000#5
  | .decode10001None => some 0b10001#5
  | .decode10010None => some 0b10010#5
  | .decode10011None => some 0b10011#5
  | .decode10100None => some 0b10100#5
  | .decode10101None => some 0b10101#5
  | .decode10110None => some 0b10110#5
  | .decode10111Bank3 => some 0b10111#5
  | .decode11000None => some 0b11000#5
  | .decode11001None => some 0b11001#5
  | .decode11010None => some 0b11010#5
  | .decode11011Bank2 => some 0b11011#5
  | .decode11100None => some 0b11100#5
  | .decode11101Bank1 => some 0b11101#5
  | .decode11110Bank0 => some 0b11110#5
  | .decode11111None => some 0b11111#5
  | .idleDeselected _ | .enterReadB0 _ | .enterReadB1 _ | .enterReadB2 _ | .enterReadB3 _ | .enterReadB4 _
  | .enterWriteB0 _ | .enterWriteB1 _ | .enterWriteB2 _ | .enterWriteB3 _ | .enterWriteB4 _ | .idleInvalid _
  | .readDeselect _ | .readToWrite _ | .serveRead _ | .settleCount | .settleRelease | .writeDeselect _
  | .writeHold _ | .writeCommit _ | .doneDeselect _ | .doneWait _ | .sample | .setDir _ | .drive _ | .decode _
  | .memRead _ _ | .memWrite _ _ _ | .emit _ => none

/-- The first of the listed rows, in order, that accepts the word; `last` where none does (30_encoding.md R67: "the first
one that matches wins"; the last row of every mode has match 0 and mask 0, so it accepts every word). -/
def firstRow (last : Sample → Instr) : List (Sample → Instr) → SampleWord → Instr
  | [], w => last (Sample.unpack w)
  | row :: rows, w =>
    match (row (Sample.unpack w)).sampleRow with
    | some r => if r.accepts w then row (Sample.unpack w) else firstRow last rows w
    | none => firstRow last rows w

/-- The row of mode Idle that a word selects (30_encoding.md R67). -/
def decodeIdle (w : SampleWord) : Instr :=
  firstRow .idleInvalid [.idleDeselected, .enterReadB0, .enterReadB1, .enterReadB2, .enterReadB3, .enterReadB4,
    .enterWriteB0, .enterWriteB1, .enterWriteB2, .enterWriteB3, .enterWriteB4] w

/-- The row of mode SelRead that a word selects (30_encoding.md R67). -/
def decodeSelRead (w : SampleWord) : Instr :=
  firstRow .serveRead [.readDeselect, .readToWrite] w

/-- The row of mode SelWrite that a word selects (30_encoding.md R67). -/
def decodeSelWrite (w : SampleWord) : Instr :=
  firstRow .writeCommit [.writeDeselect, .writeHold] w

/-- The row of mode SelWriteDone that a word selects (30_encoding.md R67). -/
def decodeSelWriteDone (w : SampleWord) : Instr :=
  firstRow .doneWait [.doneDeselect] w

/-- The row of mode ReadSettle, selected by st.settle alone (30_encoding.md R67). -/
def decodeReadSettle (settle : Nat) : Instr :=
  if settle = 0 then .settleRelease else .settleCount

/-- The row of the decode table for a select code (41_chip_select_decoder.md R90; format CE5, 30_encoding.md R72). -/
def decodeSelectCode (ce : SelectCode) : Instr :=
  match ce.toNat with
  | 0 => .decode00000None
  | 1 => .decode00001None
  | 2 => .decode00010None
  | 3 => .decode00011None
  | 4 => .decode00100None
  | 5 => .decode00101None
  | 6 => .decode00110None
  | 7 => .decode00111None
  | 8 => .decode01000None
  | 9 => .decode01001None
  | 10 => .decode01010None
  | 11 => .decode01011None
  | 12 => .decode01100None
  | 13 => .decode01101None
  | 14 => .decode01110None
  | 15 => .decode01111Bank4
  | 16 => .decode10000None
  | 17 => .decode10001None
  | 18 => .decode10010None
  | 19 => .decode10011None
  | 20 => .decode10100None
  | 21 => .decode10101None
  | 22 => .decode10110None
  | 23 => .decode10111Bank3
  | 24 => .decode11000None
  | 25 => .decode11001None
  | 26 => .decode11010None
  | 27 => .decode11011Bank2
  | 28 => .decode11100None
  | 29 => .decode11101Bank1
  | 30 => .decode11110Bank0
  | _ => .decode11111None

/-- A word the hardware decodes: a select code, or a Bus Sample in the packed form (30_encoding.md R72). -/
inductive BusWord where
  | ce5 (ce : SelectCode)
  | sample20 (w : SampleWord)
deriving DecidableEq, Repr

/-- Why a number of bits, or a word in a mode, names no operation. -/
inductive DecodeError where
  /-- In mode ReadSettle no sample is taken, so no sample selects a row (43_bus_engine.md R119). -/
  | noSampleInReadSettle
  /-- More than the 5 bits of a select code (30_encoding.md R60). -/
  | widerThanSelectCode
  /-- More than the 20 bits of a SAMPLE20 word (30_encoding.md R61). -/
  | widerThanSample20
  /-- An operation without a word: the primitives and the two rows of ReadSettle (30_encoding.md R72). -/
  | noWord
deriving DecidableEq, Repr

/-- The operation a bus word names in a mode (30_encoding.md R67, 41_chip_select_decoder.md R90). Every sample is legal in
every mode that takes one (R68). -/
def decode : Mode → BusWord → Except DecodeError Instr
  | _, .ce5 ce => .ok (decodeSelectCode ce)
  | .idle, .sample20 w => .ok (decodeIdle w)
  | .selRead, .sample20 w => .ok (decodeSelRead w)
  | .selWrite, .sample20 w => .ok (decodeSelWrite w)
  | .selWriteDone, .sample20 w => .ok (decodeSelWriteDone w)
  | .readSettle, .sample20 _ => .error .noSampleInReadSettle

/-- The bus word of a number of bits: up to one byte is the format CE5, more is SAMPLE20 (30_encoding.md R72; log 2). -/
def busWordOfBits (nbits w : Nat) : Except DecodeError BusWord :=
  if nbits = 0 then .error .noWord
  else if nbits ≤ 8 then
    if w < 32 then .ok (.ce5 (BitVec.ofNat 5 w)) else .error .widerThanSelectCode
  else if w < 1048576 then .ok (.sample20 (BitVec.ofNat 20 w)) else .error .widerThanSample20

/-- The operation the decoder reads from an instruction whose bits are w, in the mode after reset, Idle, which selects the
rows a sample is matched against (30_encoding.md R67; log 2). -/
def decodeTableWord (nbits w : Nat) : Option Instr :=
  match busWordOfBits nbits w with
  | .ok bw => (decode .idle bw).toOption
  | .error _ => none

/-- The dispatcher of 43_bus_engine.md R110, written as its case analysis over the fields of the sample (not through the
match and mask of R67). -/
def dispatch (m : Mode) (settle : Nat) (p : Sample) : Instr :=
  match m with
  | .readSettle => if settle > 0 then .settleCount else .settleRelease
  | .idle =>
    if p.ce = 0b11111#5 then .idleDeselected p
    else
      match selectBank p.ce with
      | some 0 => if p.we then .enterReadB0 p else .enterWriteB0 p
      | some 1 => if p.we then .enterReadB1 p else .enterWriteB1 p
      | some 2 => if p.we then .enterReadB2 p else .enterWriteB2 p
      | some 3 => if p.we then .enterReadB3 p else .enterWriteB3 p
      | some 4 => if p.we then .enterReadB4 p else .enterWriteB4 p
      | none => .idleInvalid p
  | .selRead =>
    if p.ce = 0b11111#5 then .readDeselect p else if p.we = false then .readToWrite p else .serveRead p
  | .selWrite =>
    if p.ce = 0b11111#5 then .writeDeselect p else if p.we = false then .writeHold p else .writeCommit p
  | .selWriteDone =>
    if p.ce = 0b11111#5 then .doneDeselect p else .doneWait p

/-- The sample an operation of format SAMPLE20 carries. -/
def Instr.sample? : Instr → Option Sample
  | .decode00000None | .decode00001None | .decode00010None | .decode00011None | .decode00100None
  | .decode00101None | .decode00110None | .decode00111None | .decode01000None | .decode01001None
  | .decode01010None | .decode01011None | .decode01100None | .decode01101None | .decode01110None
  | .decode01111Bank4 | .decode10000None | .decode10001None | .decode10010None | .decode10011None
  | .decode10100None | .decode10101None | .decode10110None | .decode10111Bank3 | .decode11000None
  | .decode11001None | .decode11010None | .decode11011Bank2 | .decode11100None | .decode11101Bank1
  | .decode11110Bank0 | .decode11111None => none
  | .idleDeselected p => some p
  | .enterReadB0 p => some p
  | .enterReadB1 p => some p
  | .enterReadB2 p => some p
  | .enterReadB3 p => some p
  | .enterReadB4 p => some p
  | .enterWriteB0 p => some p
  | .enterWriteB1 p => some p
  | .enterWriteB2 p => some p
  | .enterWriteB3 p => some p
  | .enterWriteB4 p => some p
  | .idleInvalid p => some p
  | .readDeselect p => some p
  | .readToWrite p => some p
  | .serveRead p => some p
  | .settleCount | .settleRelease => none
  | .writeDeselect p => some p
  | .writeHold p => some p
  | .writeCommit p => some p
  | .doneDeselect p => some p
  | .doneWait p => some p
  | .sample | .setDir _ | .drive _ | .decode _ | .memRead _ _ | .memWrite _ _ _ | .emit _ => none

/-- The word of an operation: its select code, or its sample packed; the primitives and the two rows of ReadSettle have
none (30_encoding.md R72). -/
def encode (i : Instr) : Except DecodeError BusWord :=
  match i.selectCode, i.sample? with
  | some ce, _ => .ok (.ce5 ce)
  | none, some p => .ok (.sample20 p.pack)
  | none, none => .error .noWord

/-- The mode an operation's row stands under; Idle for the rows of the decode table, which no mode selects but which the
engine consults in Idle only (41_chip_select_decoder.md R92). -/
def Instr.rowMode (i : Instr) : Mode :=
  match i.sampleRow with
  | some r => r.mode
  | none => .idle

end Sys2Proof
end

