-- ==== Sys2Proof/Config.lean ====
section
/-! DEFINITION. The open parameters of 00_scope.md R10 and the other values the spec leaves free, each an opaque
constant: nothing can evaluate one, so a claim holds for every value. -/

namespace Sys2Proof.Config

/-- SETTLE_POLLS (R10): the length of the read-path settle delay in polls (log 6). -/
opaque settlePolls : Nat

/-- COMMIT_ON_TIE (R10): whether a write commits when the strobe's rising edge and deselection share a sample (log 6). -/
opaque commitOnTie : Bool

/-- PLACEHOLDER (R10): the pattern the Store holds when no preload image is supplied (log 6). -/
opaque placeholder : Bank → Addr → Nibble

/-- PRELOAD (R10): the build-time preload image, one 8-bit container value per cell, if the build has one (log 6). -/
opaque preload : Option (Bank → Addr → Container)

/-- By how much RAW_ADDR_BITS exceeds 11 (R10). -/
opaque rawAddrExtraBits : Nat

/-- RAW_ADDR_BITS (R10): the width of the raw address value before masking, at least 11 (log 6). -/
def rawAddrBits : Nat := 11 + rawAddrExtraBits

/-- Whether the build has a Diagnostic Observer (R140, R162; log 10). -/
opaque observerPresent : Bool

/-- The raw address value the environment shows at the n-th Sample that no listed input covers (R81; log 1). -/
opaque busAddr : Nat → Nat

/-- The select levels at that Sample (R81; log 1). -/
opaque busSelect : Nat → SelectCode

/-- The strobe level at that Sample, true for high (R81; log 1). -/
opaque busStrobe : Nat → Bool

/-- The data-line levels at that Sample (R81; log 1). -/
opaque busData : Nat → Nibble

/-- What the n-th unsynchronised Observer read of the Store returns (R142; log 11). -/
opaque observerReads : Nat → Nibble

/-- The bank a transition of a selected mode works on where no bank is latched, in states that 10_state.md R28 says no
run reaches (log 8). -/
opaque unlatchedBank : Bank

end Sys2Proof.Config
end

