-- ==== Sys2Proof/Machine/State.lean ====
section
/-! DEFINITION. The state of the machine as plain data: the record st of 10_state.md R22 to R27, the Observer, and the
model's own fields that stand for the outside world. -/

namespace Sys2Proof.Machine

/-- The Store's cells that differ from their initial fill: container number (bank * 1024 + address) and container, in the
canonical form `Memory.wf` (10_state.md R27; log 7). -/
abbrev Memory := List Host.Cell

/-- The levels of the monitored pins at one instant (40_bus_port.md R80). The raw address value is the number on the raw
address lines, RAW_ADDR_BITS wide and not yet masked (30_encoding.md R62; log 24). True is high. -/
structure Pins where
  rawAddr : Nat
  ce : SelectCode
  we : Bool
  data : Nibble
deriving DecidableEq, Repr

/-- One thing the outside does (60_exceptions.md R162; log 1). -/
inductive Input where
  /-- The pin levels one Sample of the engine will read (40_bus_port.md R81). -/
  | poll (pins : Pins)
  /-- A caller of the Decoder looks up a select code (41_chip_select_decoder.md R90; log 3). -/
  | lookup (ce : SelectCode)
  /-- The Observer reads a cell without synchronization (44_observer_interface.md R142; log 11). -/
  | observe (b : Bank) (a : Addr)
  /-- Power off and on (70_reset_and_hazards.md R174; log 12). -/
  | restart
deriving DecidableEq, Repr

/-- One unsynchronised reading the Observer took (44_observer_interface.md R142). -/
structure Reading where
  bank : Bank
  addr : Addr
  value : Nibble
deriving DecidableEq, Repr

/-- The Diagnostic Observer: the events it received and the readings it took, oldest first (44_observer_interface.md
R140, R142). -/
structure Observer where
  events : List Event
  readings : List Reading
deriving DecidableEq, Repr

/-- What a primitive called on its own hands back to its caller (00_scope.md R13; log 4). -/
inductive Reply where
  | nothing
  | sample (p : Sample)
  | bank (b : Option Bank)
  | cell (v : Nibble)
deriving DecidableEq, Repr

/-- The whole state. -/
structure State where
  /-- st.mode (10_state.md R22). -/
  mode : Mode
  /-- st.bank, the latched bank (10_state.md R23). -/
  bank : Option Bank
  /-- st.settle, the polls left in the settle delay (10_state.md R24). -/
  settle : Nat
  /-- st.dir (10_state.md R25). -/
  dir : Dir
  /-- st.out, the output latch (10_state.md R26). -/
  out : Nibble
  /-- st.M, the Memory Store (10_state.md R27). -/
  mem : Memory
  /-- The Diagnostic Observer, none in a build without one (44_observer_interface.md R140, 60_exceptions.md R162; log 10). -/
  observer : Option Observer
  /-- The model's own: what the outside does next, in order (log 1). -/
  agenda : List Input
  /-- The model's own: how many Bus Samples were taken from the unconstrained stream of Config (log 1). -/
  freeSamples : Nat
  /-- The model's own: how many Observer reads took a value from the unconstrained stream of Config (log 11). -/
  freeReads : Nat
  /-- The model's own: what the last primitive called on its own handed back (log 4). -/
  reply : Reply
deriving DecidableEq, Repr

/-- Why the machine stops with a fault. It has no constructor: "the engine has no fault state" (60_exceptions.md R150), so
no step can end in one. Safe: there is nothing to raise. -/
inductive Fault where
deriving DecidableEq, Repr

/-- Why an instruction has no meaning. -/
inductive Refusal where
  /-- Raised by an arm of `exec` for an instruction that has no meaning yet; no arm of this model raises it. Safe: the
  machine stops where the hardware goes on. -/
  | notModelled (mnemonic : String)
deriving DecidableEq, Repr

/-- What a step answers. -/
abbrev Result := Host.Outcome State Fault Refusal

/-- The state right after reset (10_state.md R32, 70_reset_and_hazards.md R170). The Store lists nothing: every cell reads
as its initial fill (42_memory_store.md R104). The spec gives no value for `out` (log 5); the model's own fields and the
Observer's lists are empty (log 1, 4, 10,
11). -/
def State.reset : State where
  mode := .idle
  bank := none
  settle := 0
  dir := .input
  out := 0
  mem := []
  observer := if Config.observerPresent then some ⟨[], []⟩ else none
  agenda := []
  freeSamples := 0
  freeReads := 0
  reply := .nothing

end Sys2Proof.Machine
end

