-- ==== Sys2Proof/Machine/Store.lean ====
section
/-! DEFINITION. The Memory Store (42_memory_store.md): the initial fill, one cell read, one cell written, and the
canonical form of the list that holds the cells. -/

namespace Sys2Proof.Machine

/-- The initial fill of a cell: the low nibble of the preload image's container if the build has an image, else the
placeholder pattern (42_memory_store.md R104; log 6, 26). -/
def initialCell (b : Bank) (a : Addr) : Nibble :=
  match Config.preload with
  | some image => (image b a).setWidth 4
  | none => Config.placeholder b a

/-- The number of the container that holds a cell (20_memory.md R40, R41: no holes, no aliases). -/
def cellKey (b : Bank) (a : Addr) : Nat := b.val * 1024 + a.toNat

/-- The bank of a container number. -/
def keyBank (k : Nat) : Bank := ⟨k / 1024 % 5, Nat.mod_lt _ (by decide)⟩

/-- The address of a container number. -/
def keyAddr (k : Nat) : Addr := BitVec.ofNat 10 k

/-- The container listed under a number, if any. -/
def Memory.lookup (k : Nat) : Memory → Option Container
  | [] => none
  | (k', c) :: rest => if k = k' then some c else Memory.lookup k rest

/-- The list without the entries of a number. -/
def Memory.erase (k : Nat) : Memory → Memory
  | [] => []
  | (k', c) :: rest => if k = k' then Memory.erase k rest else (k', c) :: Memory.erase k rest

/-- The list with a container under a number, in rising order of the numbers. -/
def Memory.insert (k : Nat) (c : Container) : Memory → Memory
  | [] => [(k, c)]
  | (k', c') :: rest =>
    if k < k' then (k, c) :: (k', c') :: rest
    else if k = k' then (k, c) :: rest
    else (k', c') :: Memory.insert k c rest

/-- MemRead((b, a), 1): the low nibble of the cell's container, its initial fill where it is not listed
(42_memory_store.md R100, 20_memory.md R43). -/
def Memory.readCell (b : Bank) (a : Addr) (m : Memory) : Nibble :=
  match Memory.lookup (cellKey b a) m with
  | some c => c.setWidth 4
  | none => initialCell b a

/-- MemWrite((b, a), 1, v) (42_memory_store.md R102). A cell that takes its initial fill again is listed no longer. -/
def Memory.writeCell (b : Bank) (a : Addr) (v : Nibble) (m : Memory) : Memory :=
  if v = initialCell b a then Memory.erase (cellKey b a) m
  else Memory.insert (cellKey b a) (v.setWidth 8) m

/-- Whether an entry may stand in the canonical list: a container of the 5120, its unused high nibble 0, its cell not at
its initial fill (log 7). -/
def entryWf (e : Host.Cell) : Bool :=
  decide (e.1 < 5120) && decide (e.2.toNat < 16) && decide (e.2.setWidth 4 ≠ initialCell (keyBank e.1) (keyAddr e.1))

/-- The canonical form: container numbers strictly rising, every entry one that may stand. -/
def Memory.wf : Memory → Bool
  | [] => true
  | e :: rest => entryWf e && rest.all (fun e' => decide (e.1 < e'.1)) && Memory.wf rest

end Sys2Proof.Machine
end

