-- ==== Sys2Proof/Machine/Ops.lean ====
section
/-! DEFINITION. The shared operations: the seven primitives of 00_scope.md R13, the writes of the engine's own fields, and
what the outside does between polls. There is no exception to take and none to return from (60_exceptions.md R150, R156,
R157). -/

namespace Sys2Proof.Machine

/-- The Bus Sample the pins show: the raw address masked, the other levels as they are (40_bus_port.md R80). -/
def Pins.toSample (p : Pins) : Sample where
  addr := maskAddr p.rawAddr
  ce := p.ce
  we := p.we
  data := p.data

/-- The pin levels of the n-th Sample that no listed input covers: any levels at all, the raw address within
RAW_ADDR_BITS (40_bus_port.md R81; log 1). -/
def freePins (n : Nat) : Pins where
  rawAddr := Config.busAddr n % 2 ^ Config.rawAddrBits
  ce := Config.busSelect n
  we := Config.busStrobe n
  data := Config.busData n

/-- Sample(): the Bus Sample of the pin levels the agenda lists next, and of any levels where it lists none
(40_bus_port.md R80, R81; log 1). -/
def busSample (s : State) : Sample :=
  match s.agenda with
  | .poll p :: _ => p.toSample
  | _ => (freePins s.freeSamples).toSample

/-- The state with that sample used up; no field of the spec's changes (40_bus_port.md R80: "State written: none"). -/
def passSample (s : State) : State :=
  match s.agenda with
  | .poll _ :: rest => { s with agenda := rest }
  | _ => { s with freeSamples := s.freeSamples + 1 }

/-- SetDir(d) (40_bus_port.md R82). -/
def setDir (d : Dir) (s : State) : State := { s with dir := d }

/-- Drive(v) (40_bus_port.md R84). -/
def drive (v : Nibble) (s : State) : State := { s with out := v }

/-- MemRead((b, a), 1) (42_memory_store.md R100). -/
def memRead (b : Bank) (a : Addr) (s : State) : Nibble := Memory.readCell b a s.mem

/-- MemWrite((b, a), 1, v) (42_memory_store.md R102). -/
def memWrite (b : Bank) (a : Addr) (v : Nibble) (s : State) : State :=
  { s with mem := Memory.writeCell b a v s.mem }

/-- Emit(e): the event is appended to the Observer's stream, and dropped where the build has no Observer
(44_observer_interface.md R140; log 10). -/
def emit (e : Event) (s : State) : State :=
  { s with observer := s.observer.map fun o => { o with events := o.events ++ [e] } }

/-- st.mode <- m (00_scope.md R12). -/
def setMode (m : Mode) (s : State) : State := { s with mode := m }

/-- st.bank <- b (10_state.md R23). -/
def setBank (b : Option Bank) (s : State) : State := { s with bank := b }

/-- st.settle <- n (10_state.md R24). -/
def setSettle (n : Nat) (s : State) : State := { s with settle := n }

/-- The value a primitive called on its own hands back (log 4). -/
def setReply (r : Reply) (s : State) : State := { s with reply := r }

/-- The level of the data lines from the block's side: the latch while the direction is Output, none (Z) while it is
Input (40_bus_port.md R83, R86). -/
def lines (s : State) : Option Nibble :=
  match s.dir with
  | .output => some s.out
  | .input => none

/-- An unsynchronised read of the Store by the Observer: any value results, and only the Observer sees it
(44_observer_interface.md R142; log 11). -/
def observe (b : Bank) (a : Addr) (s : State) : State :=
  { s with
    observer := s.observer.map fun o => { o with readings := o.readings ++ [⟨b, a, Config.observerReads s.freeReads⟩] }
    freeReads := s.freeReads + 1 }

/-- Power off and on: the reset sequence again, with nothing kept but what the outside does
(70_reset_and_hazards.md R170, R174; log 12). -/
def restart (s : State) : State :=
  { State.reset with agenda := s.agenda, freeSamples := s.freeSamples, freeReads := s.freeReads }

end Sys2Proof.Machine
end

