-- ==== Sys2Proof/Machine/BusPort.lean ====
section
/-! DEFINITION. The primitives of the Bus Port called on their own: SAMPLE, SET_DIR and DRIVE (40_bus_port.md). -/

namespace Sys2Proof.Machine

/-- SAMPLE (40_bus_port.md R80): one Bus Sample of the pins is handed back; no state is written. -/
def execSample (s : State) : Result := .next (setReply (.sample (busSample s)) (passSample s))

/-- SET_DIR (40_bus_port.md R82). -/
def execSetDir (d : Dir) (s : State) : Result := .next (setDir d s)

/-- DRIVE (40_bus_port.md R84). -/
def execDrive (v : Nibble) (s : State) : Result := .next (drive v s)

end Sys2Proof.Machine
end

