-- ==== Sys2Proof/Machine/Operands.lean ====
section
/-! DEFINITION. The operands of the transitions: the latched bank, and the cell it makes with a sample's address. No other
operand form exists (30_encoding.md R66: no field is sign-extended, scaled or shifted). -/

namespace Sys2Proof.Machine

/-- The bank a transition of a selected mode works on: the latched one (10_state.md R23, 43_bus_engine.md R117). Where none
is latched, which 10_state.md R28 rules out of every run, the bank is a free value (log 8). -/
def latchedBank (s : State) : Bank := s.bank.getD Config.unlatchedBank

/-- The cell a served read shows: the latched bank at the sample's address (43_bus_engine.md R114). -/
def servedCell (p : Sample) (s : State) : Nibble := memRead (latchedBank s) p.addr s

end Sys2Proof.Machine
end

