-- ==== Sys2Proof/Machine/EngineIdle.lean ====
section
/-! DEFINITION. The engine's transitions of mode Idle (43_bus_engine.md R111 to R113). A meaning is its rule's pseudocode;
that the mode and the sample select it is `decode`'s concern (30_encoding.md R67; log 9). -/

namespace Sys2Proof.Machine

/-- ENTER_READ(b): the bank is latched and the addressed cell is driven in the same step (43_bus_engine.md R111, R116). -/
def enterRead (b : Bank) (p : Sample) (s : State) : Result :=
  .next (emit (.read b p.addr (memRead b p.addr s)) (emit (.select b .read)
    (setMode .selRead (drive (memRead b p.addr s) (setDir .output (setBank (some b) s))))))

/-- ENTER_WRITE(b): the bank is latched and the pins are set to Input; nothing is written (43_bus_engine.md R112). -/
def enterWrite (b : Bank) (s : State) : Result :=
  .next (emit (.select b .write) (setMode .selWrite (setDir .input (setBank (some b) s))))

/-- IDLE_DESELECTED: no change (43_bus_engine.md R113). -/
def execIdleDeselected (_p : Sample) (s : State) : Result := .next s

/-- IDLE_INVALID: no change; an invalid code is no fault (43_bus_engine.md R113). -/
def execIdleInvalid (_p : Sample) (s : State) : Result := .next s

/-- ENTER_READ_B0 (43_bus_engine.md R111). -/
def execEnterReadB0 (p : Sample) (s : State) : Result := enterRead 0 p s

/-- ENTER_READ_B1 (43_bus_engine.md R111). -/
def execEnterReadB1 (p : Sample) (s : State) : Result := enterRead 1 p s

/-- ENTER_READ_B2 (43_bus_engine.md R111). -/
def execEnterReadB2 (p : Sample) (s : State) : Result := enterRead 2 p s

/-- ENTER_READ_B3 (43_bus_engine.md R111). -/
def execEnterReadB3 (p : Sample) (s : State) : Result := enterRead 3 p s

/-- ENTER_READ_B4 (43_bus_engine.md R111). -/
def execEnterReadB4 (p : Sample) (s : State) : Result := enterRead 4 p s

/-- ENTER_WRITE_B0 (43_bus_engine.md R112); the sample's address and data are not used. -/
def execEnterWriteB0 (_p : Sample) (s : State) : Result := enterWrite 0 s

/-- ENTER_WRITE_B1 (43_bus_engine.md R112); the sample's address and data are not used. -/
def execEnterWriteB1 (_p : Sample) (s : State) : Result := enterWrite 1 s

/-- ENTER_WRITE_B2 (43_bus_engine.md R112); the sample's address and data are not used. -/
def execEnterWriteB2 (_p : Sample) (s : State) : Result := enterWrite 2 s

/-- ENTER_WRITE_B3 (43_bus_engine.md R112); the sample's address and data are not used. -/
def execEnterWriteB3 (_p : Sample) (s : State) : Result := enterWrite 3 s

/-- ENTER_WRITE_B4 (43_bus_engine.md R112); the sample's address and data are not used. -/
def execEnterWriteB4 (_p : Sample) (s : State) : Result := enterWrite 4 s

end Sys2Proof.Machine
end

