-- ==== Sys2Proof/Machine/EngineRead.lean ====
section
/-! DEFINITION. The engine's transitions of the modes SelRead and ReadSettle (43_bus_engine.md R114 to R121). -/

namespace Sys2Proof.Machine

/-- SERVE_READ: the cell of the latched bank at this sample's address is driven (43_bus_engine.md R114). -/
def execServeRead (p : Sample) (s : State) : Result :=
  .next (emit (.read (latchedBank s) p.addr (servedCell p s)) (drive (servedCell p s) s))

/-- READ_TO_WRITE: Input at once, no settle delay, the latch and the bank kept (43_bus_engine.md R115; log 15). -/
def execReadToWrite (_p : Sample) (s : State) : Result := .next (setMode .selWrite (setDir .input s))

/-- READ_DESELECT: the settle delay is loaded; the lines stay driven and nothing new is driven (43_bus_engine.md R118). -/
def execReadDeselect (_p : Sample) (s : State) : Result :=
  .next (setMode .readSettle (setSettle Config.settlePolls (setBank none (emit (.deselect (latchedBank s)) s))))

/-- SETTLE_COUNT (43_bus_engine.md R120); the row is selected while st.settle > 0, so the count never goes below 0. -/
def execSettleCount (s : State) : Result := .next (setSettle (s.settle - 1) s)

/-- SETTLE_RELEASE (43_bus_engine.md R121). -/
def execSettleRelease (s : State) : Result := .next (setMode .idle (setDir .input s))

end Sys2Proof.Machine
end

