-- ==== Sys2Proof/Machine/Flags.lean ====
section
/-! DEFINITION. The block has no flags, condition codes or predicates (10_state.md R29), so no transition computes one. The
one condition a transition tests beyond those that select its row stands here. -/

namespace Sys2Proof.Machine

/-- Whether a deselecting sample in mode SelWrite commits: the strobe is high in it and COMMIT_ON_TIE holds
(43_bus_engine.md R122; log 6). -/
def commitsOnTie (p : Sample) : Bool := Config.commitOnTie && p.we

end Sys2Proof.Machine
end

