-- ==== Sys2Proof/Machine/EngineWrite.lean ====
section
/-! DEFINITION. The engine's transitions of the modes SelWrite and SelWriteDone (43_bus_engine.md R122 to R126). -/

namespace Sys2Proof.Machine

/-- The commit: the sample's data goes to the latched bank at the sample's address, and the Write event is emitted
(43_bus_engine.md R122, R124). -/
def commit (p : Sample) (s : State) : State :=
  emit (.write (latchedBank s) p.addr p.data) (memWrite (latchedBank s) p.addr p.data s)

/-- The end of a write transaction: the Deselect event, no bank, mode Idle, no settle delay (43_bus_engine.md R122, R126). -/
def leaveWrite (s : State) : State := setMode .idle (setBank none (emit (.deselect (latchedBank s)) s))

/-- WRITE_DESELECT: nothing is committed, but in the tie case under COMMIT_ON_TIE (43_bus_engine.md R122; log 6). -/
def execWriteDeselect (p : Sample) (s : State) : Result :=
  .next (leaveWrite (if commitsOnTie p then commit p s else s))

/-- WRITE_HOLD: no change (43_bus_engine.md R123). -/
def execWriteHold (_p : Sample) (s : State) : Result := .next s

/-- WRITE_COMMIT: the strobe's rising edge (43_bus_engine.md R124). -/
def execWriteCommit (p : Sample) (s : State) : Result := .next (setMode .selWriteDone (commit p s))

/-- DONE_WAIT: no change; the strobe is ignored until the deselect code (43_bus_engine.md R125; log 14). -/
def execDoneWait (_p : Sample) (s : State) : Result := .next s

/-- DONE_DESELECT (43_bus_engine.md R126). -/
def execDoneDeselect (_p : Sample) (s : State) : Result := .next (leaveWrite s)

end Sys2Proof.Machine
end

