-- ==== Sys2Proof/Machine/MemoryStore.lean ====
section
/-! DEFINITION. The primitives of the Memory Store called on their own: MEM_READ and MEM_WRITE (42_memory_store.md). -/

namespace Sys2Proof.Machine

/-- MEM_READ (42_memory_store.md R100): the cell is handed back; no state is written. -/
def execMemRead (b : Bank) (a : Addr) (s : State) : Result := .next (setReply (.cell (memRead b a s)) s)

/-- MEM_WRITE (42_memory_store.md R102). -/
def execMemWrite (b : Bank) (a : Addr) (v : Nibble) (s : State) : Result := .next (memWrite b a v s)

end Sys2Proof.Machine
end

