-- ==== Sys2Proof/Machine/ObserverHook.lean ====
section
/-! DEFINITION. The hook to the Diagnostic Observer called on its own: EMIT (44_observer_interface.md). -/

namespace Sys2Proof.Machine

/-- EMIT (44_observer_interface.md R140). -/
def execEmit (e : Event) (s : State) : Result := .next (emit e s)

end Sys2Proof.Machine
end

