-- ==== Sys2Proof/Machine/SelectDecoder.lean ====
section
/-! DEFINITION. The Chip-Select Decoder called on its own: DECODE, and the 32 entries of its table (41_chip_select_decoder.md
R90). A look-up writes no state of the spec's; its result is handed back. -/

namespace Sys2Proof.Machine

/-- A look-up of a select code (41_chip_select_decoder.md R90, R91). -/
def lookupCode (ce : SelectCode) (s : State) : Result := .next (setReply (.bank (selectBank ce)) s)

/-- DECODE (41_chip_select_decoder.md R90). -/
def execDecode (ce : SelectCode) (s : State) : Result := lookupCode ce s

/-- DECODE_00000_NONE: the entry 00000, invalid, none (41_chip_select_decoder.md R90). -/
def execDecode00000None (s : State) : Result := lookupCode 0b00000#5 s

/-- DECODE_00001_NONE: the entry 00001, invalid, none (41_chip_select_decoder.md R90). -/
def execDecode00001None (s : State) : Result := lookupCode 0b00001#5 s

/-- DECODE_00010_NONE: the entry 00010, invalid, none (41_chip_select_decoder.md R90). -/
def execDecode00010None (s : State) : Result := lookupCode 0b00010#5 s

/-- DECODE_00011_NONE: the entry 00011, invalid, none (41_chip_select_decoder.md R90). -/
def execDecode00011None (s : State) : Result := lookupCode 0b00011#5 s

/-- DECODE_00100_NONE: the entry 00100, invalid, none (41_chip_select_decoder.md R90). -/
def execDecode00100None (s : State) : Result := lookupCode 0b00100#5 s

/-- DECODE_00101_NONE: the entry 00101, invalid, none (41_chip_select_decoder.md R90). -/
def execDecode00101None (s : State) : Result := lookupCode 0b00101#5 s

/-- DECODE_00110_NONE: the entry 00110, invalid, none (41_chip_select_decoder.md R90). -/
def execDecode00110None (s : State) : Result := lookupCode 0b00110#5 s

/-- DECODE_00111_NONE: the entry 00111, invalid, none (41_chip_select_decoder.md R90). -/
def execDecode00111None (s : State) : Result := lookupCode 0b00111#5 s

/-- DECODE_01000_NONE: the entry 01000, invalid, none (41_chip_select_decoder.md R90). -/
def execDecode01000None (s : State) : Result := lookupCode 0b01000#5 s

/-- DECODE_01001_NONE: the entry 01001, invalid, none (41_chip_select_decoder.md R90). -/
def execDecode01001None (s : State) : Result := lookupCode 0b01001#5 s

/-- DECODE_01010_NONE: the entry 01010, invalid, none (41_chip_select_decoder.md R90). -/
def execDecode01010None (s : State) : Result := lookupCode 0b01010#5 s

/-- DECODE_01011_NONE: the entry 01011, invalid, none (41_chip_select_decoder.md R90). -/
def execDecode01011None (s : State) : Result := lookupCode 0b01011#5 s

/-- DECODE_01100_NONE: the entry 01100, invalid, none (41_chip_select_decoder.md R90). -/
def execDecode01100None (s : State) : Result := lookupCode 0b01100#5 s

/-- DECODE_01101_NONE: the entry 01101, invalid, none (41_chip_select_decoder.md R90). -/
def execDecode01101None (s : State) : Result := lookupCode 0b01101#5 s

/-- DECODE_01110_NONE: the entry 01110, invalid, none (41_chip_select_decoder.md R90). -/
def execDecode01110None (s : State) : Result := lookupCode 0b01110#5 s

/-- DECODE_01111_BANK4: the entry 01111, valid, some 4 (41_chip_select_decoder.md R90). -/
def execDecode01111Bank4 (s : State) : Result := lookupCode 0b01111#5 s

/-- DECODE_10000_NONE: the entry 10000, invalid, none (41_chip_select_decoder.md R90). -/
def execDecode10000None (s : State) : Result := lookupCode 0b10000#5 s

/-- DECODE_10001_NONE: the entry 10001, invalid, none (41_chip_select_decoder.md R90). -/
def execDecode10001None (s : State) : Result := lookupCode 0b10001#5 s

/-- DECODE_10010_NONE: the entry 10010, invalid, none (41_chip_select_decoder.md R90). -/
def execDecode10010None (s : State) : Result := lookupCode 0b10010#5 s

/-- DECODE_10011_NONE: the entry 10011, invalid, none (41_chip_select_decoder.md R90). -/
def execDecode10011None (s : State) : Result := lookupCode 0b10011#5 s

/-- DECODE_10100_NONE: the entry 10100, invalid, none (41_chip_select_decoder.md R90). -/
def execDecode10100None (s : State) : Result := lookupCode 0b10100#5 s

/-- DECODE_10101_NONE: the entry 10101, invalid, none (41_chip_select_decoder.md R90). -/
def execDecode10101None (s : State) : Result := lookupCode 0b10101#5 s

/-- DECODE_10110_NONE: the entry 10110, invalid, none (41_chip_select_decoder.md R90). -/
def execDecode10110None (s : State) : Result := lookupCode 0b10110#5 s

/-- DECODE_10111_BANK3: the entry 10111, valid, some 3 (41_chip_select_decoder.md R90). -/
def execDecode10111Bank3 (s : State) : Result := lookupCode 0b10111#5 s

/-- DECODE_11000_NONE: the entry 11000, invalid, none (41_chip_select_decoder.md R90). -/
def execDecode11000None (s : State) : Result := lookupCode 0b11000#5 s

/-- DECODE_11001_NONE: the entry 11001, invalid, none (41_chip_select_decoder.md R90). -/
def execDecode11001None (s : State) : Result := lookupCode 0b11001#5 s

/-- DECODE_11010_NONE: the entry 11010, invalid, none (41_chip_select_decoder.md R90). -/
def execDecode11010None (s : State) : Result := lookupCode 0b11010#5 s

/-- DECODE_11011_BANK2: the entry 11011, valid, some 2 (41_chip_select_decoder.md R90). -/
def execDecode11011Bank2 (s : State) : Result := lookupCode 0b11011#5 s

/-- DECODE_11100_NONE: the entry 11100, invalid, none (41_chip_select_decoder.md R90). -/
def execDecode11100None (s : State) : Result := lookupCode 0b11100#5 s

/-- DECODE_11101_BANK1: the entry 11101, valid, some 1 (41_chip_select_decoder.md R90). -/
def execDecode11101Bank1 (s : State) : Result := lookupCode 0b11101#5 s

/-- DECODE_11110_BANK0: the entry 11110, valid, some 0 (41_chip_select_decoder.md R90). -/
def execDecode11110Bank0 (s : State) : Result := lookupCode 0b11110#5 s

/-- DECODE_11111_NONE: the entry 11111, deselect, none (41_chip_select_decoder.md R90). -/
def execDecode11111None (s : State) : Result := lookupCode 0b11111#5 s

end Sys2Proof.Machine
end

