-- ==== Sys2Proof/Machine/Dispatch.lean ====
section
/-! DEFINITION. One arm per operation of the opcode table, each one call of its meaning. -/

namespace Sys2Proof.Machine

def exec (i : Instr) (s : State) : Host.Outcome State Fault Refusal :=
  match i with
  | .decode00000None => Sys2Proof.Machine.execDecode00000None s
  | .decode00001None => Sys2Proof.Machine.execDecode00001None s
  | .decode00010None => Sys2Proof.Machine.execDecode00010None s
  | .decode00011None => Sys2Proof.Machine.execDecode00011None s
  | .decode00100None => Sys2Proof.Machine.execDecode00100None s
  | .decode00101None => Sys2Proof.Machine.execDecode00101None s
  | .decode00110None => Sys2Proof.Machine.execDecode00110None s
  | .decode00111None => Sys2Proof.Machine.execDecode00111None s
  | .decode01000None => Sys2Proof.Machine.execDecode01000None s
  | .decode01001None => Sys2Proof.Machine.execDecode01001None s
  | .decode01010None => Sys2Proof.Machine.execDecode01010None s
  | .decode01011None => Sys2Proof.Machine.execDecode01011None s
  | .decode01100None => Sys2Proof.Machine.execDecode01100None s
  | .decode01101None => Sys2Proof.Machine.execDecode01101None s
  | .decode01110None => Sys2Proof.Machine.execDecode01110None s
  | .decode01111Bank4 => Sys2Proof.Machine.execDecode01111Bank4 s
  | .decode10000None => Sys2Proof.Machine.execDecode10000None s
  | .decode10001None => Sys2Proof.Machine.execDecode10001None s
  | .decode10010None => Sys2Proof.Machine.execDecode10010None s
  | .decode10011None => Sys2Proof.Machine.execDecode10011None s
  | .decode10100None => Sys2Proof.Machine.execDecode10100None s
  | .decode10101None => Sys2Proof.Machine.execDecode10101None s
  | .decode10110None => Sys2Proof.Machine.execDecode10110None s
  | .decode10111Bank3 => Sys2Proof.Machine.execDecode10111Bank3 s
  | .decode11000None => Sys2Proof.Machine.execDecode11000None s
  | .decode11001None => Sys2Proof.Machine.execDecode11001None s
  | .decode11010None => Sys2Proof.Machine.execDecode11010None s
  | .decode11011Bank2 => Sys2Proof.Machine.execDecode11011Bank2 s
  | .decode11100None => Sys2Proof.Machine.execDecode11100None s
  | .decode11101Bank1 => Sys2Proof.Machine.execDecode11101Bank1 s
  | .decode11110Bank0 => Sys2Proof.Machine.execDecode11110Bank0 s
  | .decode11111None => Sys2Proof.Machine.execDecode11111None s
  | .idleDeselected p => Sys2Proof.Machine.execIdleDeselected p s
  | .enterReadB0 p => Sys2Proof.Machine.execEnterReadB0 p s
  | .enterReadB1 p => Sys2Proof.Machine.execEnterReadB1 p s
  | .enterReadB2 p => Sys2Proof.Machine.execEnterReadB2 p s
  | .enterReadB3 p => Sys2Proof.Machine.execEnterReadB3 p s
  | .enterReadB4 p => Sys2Proof.Machine.execEnterReadB4 p s
  | .enterWriteB0 p => Sys2Proof.Machine.execEnterWriteB0 p s
  | .enterWriteB1 p => Sys2Proof.Machine.execEnterWriteB1 p s
  | .enterWriteB2 p => Sys2Proof.Machine.execEnterWriteB2 p s
  | .enterWriteB3 p => Sys2Proof.Machine.execEnterWriteB3 p s
  | .enterWriteB4 p => Sys2Proof.Machine.execEnterWriteB4 p s
  | .idleInvalid p => Sys2Proof.Machine.execIdleInvalid p s
  | .readDeselect p => Sys2Proof.Machine.execReadDeselect p s
  | .readToWrite p => Sys2Proof.Machine.execReadToWrite p s
  | .serveRead p => Sys2Proof.Machine.execServeRead p s
  | .settleCount => Sys2Proof.Machine.execSettleCount s
  | .settleRelease => Sys2Proof.Machine.execSettleRelease s
  | .writeDeselect p => Sys2Proof.Machine.execWriteDeselect p s
  | .writeHold p => Sys2Proof.Machine.execWriteHold p s
  | .writeCommit p => Sys2Proof.Machine.execWriteCommit p s
  | .doneDeselect p => Sys2Proof.Machine.execDoneDeselect p s
  | .doneWait p => Sys2Proof.Machine.execDoneWait p s
  | .sample => Sys2Proof.Machine.execSample s
  | .setDir d => Sys2Proof.Machine.execSetDir d s
  | .drive v => Sys2Proof.Machine.execDrive v s
  | .decode ce => Sys2Proof.Machine.execDecode ce s
  | .memRead b a => Sys2Proof.Machine.execMemRead b a s
  | .memWrite b a v => Sys2Proof.Machine.execMemWrite b a v s
  | .emit e => Sys2Proof.Machine.execEmit e s

end Sys2Proof.Machine
end

