-- ==== Sys2Proof/Machine/Poll.lean ====
section
/-! DEFINITION. What the machine does next: the outside moves if the agenda says so, and else the engine polls, which
selects one row of its decision table (43_bus_engine.md R110). -/

namespace Sys2Proof.Machine

/-- What happens next. -/
inductive Turn where
  /-- An operation runs from a state. -/
  | run (i : Instr) (s : State)
  /-- Only the outside moved. -/
  | outside (s : State)
deriving DecidableEq, Repr

/-- A poll that takes a sample: the packed sample selects the row (30_encoding.md R67, 40_bus_port.md R81). -/
def sampled (select : SampleWord → Instr) (s : State) : Turn :=
  .run (select (busSample s).pack) (passSample s)

/-- One poll of the engine; in mode ReadSettle it takes no sample (43_bus_engine.md R110, R119). -/
def enginePoll (s : State) : Turn :=
  match s.mode with
  | .idle => sampled decodeIdle s
  | .selRead => sampled decodeSelRead s
  | .selWrite => sampled decodeSelWrite s
  | .selWriteDone => sampled decodeSelWriteDone s
  | .readSettle => .run (decodeReadSettle s.settle) s

/-- The next turn. DESIGN CHOICE where the spec sets no point at which a power-off (70_reset_and_hazards.md R174), an
Observer read or a look-up falls (43_bus_engine.md R119): at the head of the agenda it comes before any further step, and a
step of the settle delay uses up no item. So in a run from reset none of them falls after a settle step and before the
next Sample (log 1, 3, 11, 12). -/
def turn (s : State) : Turn :=
  match s.agenda with
  | .lookup ce :: rest => .run (decodeSelectCode ce) { s with agenda := rest }
  | .observe b a :: rest => .outside (observe b a { s with agenda := rest })
  | .restart :: rest => .outside (restart { s with agenda := rest })
  | .poll _ :: _ => enginePoll s
  | [] => enginePoll s

/-- The state with an input placed before all others, in the mode the word of an instruction is read in: Idle for a sample
(log 2); a select code is read in every mode. -/
def placeWord (nbits : Nat) (input : Input) (s : State) : State :=
  { s with mode := if nbits ≤ 8 then s.mode else .idle, agenda := input :: s.agenda }

/-- The input that places the word of an instruction before the next turn: a select code to look up, or the pin levels
that sample to it (log 2). -/
def inputOfWord (nbits w : Nat) : Input :=
  if nbits ≤ 8 then .lookup (BitVec.ofNat 5 w)
  else .poll ⟨(Sample.unpack (BitVec.ofNat 20 w)).addr.toNat, (Sample.unpack (BitVec.ofNat 20 w)).ce,
    (Sample.unpack (BitVec.ofNat 20 w)).we, (Sample.unpack (BitVec.ofNat 20 w)).data⟩

end Sys2Proof.Machine
end

