-- ==== Sys2Proof/Machine/Step.lean ====
section
/-! DEFINITION. One step of the machine, and the placing of one word before it. -/

namespace Sys2Proof.Machine

/-- One step: the next turn (43_bus_engine.md R110). -/
def step (s : State) : Host.Outcome State Fault Refusal :=
  match turn s with
  | .run i t => exec i t
  | .outside t => .next t

/-- The state with the word of an instruction placed so that the very next step runs it. The mode is part of what selects
an engine row (30_encoding.md R67), and a sample's word is read in mode Idle, the mode after reset (log 2). -/
def State.withFetchWord (s : State) (nbits w : Nat) : State := placeWord nbits (inputOfWord nbits w) s

end Sys2Proof.Machine
end

