-- ==== Sys2Proof/Machine/Script.lean ====
section
/-! DEFINITION. The bus-script notation of 30_encoding.md R70 and R71: lists of samples, and the runner. They are a
notation, no part of the hardware (log 23). -/

namespace Sys2Proof.Machine

/-- One script line: `S ce=… we=… a=… d=…` with the raw address (30_encoding.md R70). -/
def scriptLine (ce : SelectCode) (we : Bool) (a : Nat) (d : Nibble) : Input := .poll ⟨a, ce, we, d⟩

/-- `IDLE n` (30_encoding.md R71). -/
def idleScript (n : Nat) : List Input := List.replicate n (scriptLine 0b11111#5 true 0 0)

/-- `WR b, a, v` (30_encoding.md R71). -/
def writeScript (b : Bank) (a : Nat) (v : Nibble) : List Input :=
  [scriptLine (bankCode b) false a v, scriptLine (bankCode b) true a v, scriptLine 0b11111#5 true a v]

/-- `RD b, a` (30_encoding.md R71). -/
def readScript (b : Bank) (a : Nat) : List Input :=
  [scriptLine (bankCode b) true a 0, scriptLine 0b11111#5 true a 0]

/-- Whether the runner goes on: the settle delay runs, or samples are left (30_encoding.md R70). -/
def scriptGoesOn (s : State) : Bool := s.mode == .readSettle || !s.agenda.isEmpty

/-- The script runner of 30_encoding.md R70, for at most the given number of steps. -/
def runScript : Nat → State → Result
  | 0, s => .next s
  | n + 1, s =>
    if scriptGoesOn s then
      match step s with
      | .next t => runScript n t
      | .fault r => .fault r
      | .refused r => .refused r
    else .next s

end Sys2Proof.Machine
end

