-- ==== Sys2Proof/Safety.lean ====
section
/-! DEFINITION. What the claims speak of: the invariants of 10_state.md R28, the canonical Store, whose turn it is, and the
part of a state that the Observer cannot touch. -/

namespace Sys2Proof.Machine

/-- The four invariants of 10_state.md R28. -/
structure Coherent (s : State) : Prop where
  idle : s.mode = .idle → s.dir = .input ∧ s.bank = none
  selRead : s.mode = .selRead → s.dir = .output ∧ ∃ b, s.bank = some b
  selWrite : s.mode = .selWrite ∨ s.mode = .selWriteDone → s.dir = .input ∧ ∃ b, s.bank = some b
  readSettle : s.mode = .readSettle → s.dir = .output ∧ s.bank = none

/-- The settle count never exceeds SETTLE_POLLS and is 0 outside ReadSettle (10_state.md R24: it is loaded on entry to
ReadSettle, and ReadSettle is left at 0). -/
structure SettleBounded (s : State) : Prop where
  le_polls : s.settle ≤ Config.settlePolls
  zero_outside : s.mode ≠ .readSettle → s.settle = 0

/-- Every raw address the agenda lists fits the raw address lines (00_scope.md R10 RAW_ADDR_BITS). -/
def AgendaFits (s : State) : Prop := ∀ p, Input.poll p ∈ s.agenda → p.rawAddr < 2 ^ Config.rawAddrBits

/-- A good state: what every run from reset meets. -/
structure Inv (s : State) : Prop where
  coherent : Coherent s
  settle : SettleBounded s
  store : Memory.wf s.mem = true

/-- A run is safe while the block drives the lines only during a read transaction and its settle tail (10_state.md R28,
90_conflicts.md C3). -/
def DrivesOnlyInReads (s : State) : Prop := lines s ≠ none → s.mode = .selRead ∨ s.mode = .readSettle

/-- Whether the engine moves next (log 1). -/
def engineNext (s : State) : Bool :=
  match s.agenda with
  | [] => true
  | .poll _ :: _ => true
  | .lookup _ :: _ => false
  | .observe _ _ :: _ => false
  | .restart :: _ => false

/-- Whether the Observer reads a cell next (log 11). -/
def observerNext (s : State) : Bool :=
  match s.agenda with
  | [] => false
  | .poll _ :: _ => false
  | .lookup _ :: _ => false
  | .observe _ _ :: _ => true
  | .restart :: _ => false

/-- Whether an input is the Observer's. -/
def Input.isObserver : Input → Bool
  | .observe _ _ => true
  | .poll _ => false
  | .lookup _ => false
  | .restart => false

/-- The state without the Observer: neither its lists nor its coming reads nor the count of them. -/
def withoutObserver (s : State) : State :=
  { s with observer := none, agenda := s.agenda.filter (fun i => !i.isObserver), freeReads := 0 }

/-- The state with another agenda. -/
def withAgenda (agenda : List Input) (s : State) : State := { s with agenda := agenda }

/-- The modes of a selected bank (43_bus_engine.md R117, R128). -/
def selectedMode : Mode → Bool
  | .selRead => true
  | .selWrite => true
  | .selWriteDone => true
  | .idle => false
  | .readSettle => false

/-- An Observer, if there is one, after it has received the events, in order (44_observer_interface.md R140). -/
def heard (es : List Event) (o : Option Observer) : Option Observer :=
  o.map fun o => { o with events := o.events ++ es }

/-- The state after n steps, or the first stop (Host.Core.run of this machine: `runSteps_eq_run`). -/
def runSteps : Nat → State → Result
  | 0, s => .next s
  | n + 1, s =>
    match step s with
    | .next t => runSteps n t
    | .fault r => .fault r
    | .refused r => .refused r

/-- The commit the next step makes, if it makes one: a poll in SelWrite that shows the strobe's rising edge
(43_bus_engine.md R124), or the tie (R122). -/
def commitOf (s : State) : Option (Bank × Addr × Nibble) :=
  if engineNext s && s.mode == .selWrite && (busSample s).we && ((busSample s).ce != 0b11111#5 || Config.commitOnTie) then
    some (latchedBank s, (busSample s).addr, (busSample s).data)
  else none

/-- The commits of the next n steps, oldest first. -/
def commitsOf : Nat → State → List (Bank × Addr × Nibble)
  | 0, _ => []
  | n + 1, s =>
    match step s with
    | .next t => (commitOf s).toList ++ commitsOf n t
    | .fault _ => []
    | .refused _ => []

/-- The value of the last listed commit to a cell, and the given value where none is to it (20_memory.md R50). -/
def lastCommit (b : Bank) (a : Addr) : List (Bank × Addr × Nibble) → Nibble → Nibble
  | [], v => v
  | (b', a', w) :: rest, v => lastCommit b a rest (if b' = b ∧ a' = a then w else v)

end Sys2Proof.Machine
end

