-- ==== Sys2Proof/Certificates/Slice0/Obligations.lean ====
section
/-! DEFINITION. The statements for the provers, each a proposition with the rule of spec/ it formalises, or the sections
it rests on. A field, an input or a value that is the model's own is named with its log entry. -/

open Sys2Proof Sys2Proof.Machine

/-- Decode(11110) is bank 0, Decode(11101) bank 1, Decode(11011) bank 2, Decode(10111) bank 3, Decode(01111) bank 4, and
every other of the 32 codes gives none. The DECODE primitive answers a next state for every code in which every
field of the spec is as before; the result stands in the model's own field reply (log 4). Formalises R90. -/
def Obligations.DecoderMapsTheFiveValidCodes : Prop :=
  selectBank 0b11110#5 = some 0 ∧ selectBank 0b11101#5 = some 1 ∧ selectBank 0b11011#5 = some 2 ∧
  selectBank 0b10111#5 = some 3 ∧ selectBank 0b01111#5 = some 4 ∧
  (∀ ce : SelectCode, ce ∉ [0b11110#5, 0b11101#5, 0b11011#5, 0b10111#5, 0b01111#5] → selectBank ce = none) ∧
  ∀ (ce : SelectCode) (s : State), exec (.decode ce) s = .next { s with reply := .bank (selectBank ce) }

/-- Each of the 32 CE5 rows answers a next state in which every field of the spec is as before and the model's own field
reply (log 4) holds the row's entry: none for the 27 codes without a bank, the bank for the five valid codes. Rests
on 41_chip_select_decoder.md (the table of 32 codes); notes/assumptions/4.md (the field reply). -/
def Obligations.DecodeTableRowsAnswerTheirEntry : Prop :=
  ∀ s : State,
  exec .decode00000None s = .next { s with reply := .bank none } ∧
  exec .decode00001None s = .next { s with reply := .bank none } ∧
  exec .decode00010None s = .next { s with reply := .bank none } ∧
  exec .decode00011None s = .next { s with reply := .bank none } ∧
  exec .decode00100None s = .next { s with reply := .bank none } ∧
  exec .decode00101None s = .next { s with reply := .bank none } ∧
  exec .decode00110None s = .next { s with reply := .bank none } ∧
  exec .decode00111None s = .next { s with reply := .bank none } ∧
  exec .decode01000None s = .next { s with reply := .bank none } ∧
  exec .decode01001None s = .next { s with reply := .bank none } ∧
  exec .decode01010None s = .next { s with reply := .bank none } ∧
  exec .decode01011None s = .next { s with reply := .bank none } ∧
  exec .decode01100None s = .next { s with reply := .bank none } ∧
  exec .decode01101None s = .next { s with reply := .bank none } ∧
  exec .decode01110None s = .next { s with reply := .bank none } ∧
  exec .decode10000None s = .next { s with reply := .bank none } ∧
  exec .decode10001None s = .next { s with reply := .bank none } ∧
  exec .decode10010None s = .next { s with reply := .bank none } ∧
  exec .decode10011None s = .next { s with reply := .bank none } ∧
  exec .decode10100None s = .next { s with reply := .bank none } ∧
  exec .decode10101None s = .next { s with reply := .bank none } ∧
  exec .decode10110None s = .next { s with reply := .bank none } ∧
  exec .decode11000None s = .next { s with reply := .bank none } ∧
  exec .decode11001None s = .next { s with reply := .bank none } ∧
  exec .decode11010None s = .next { s with reply := .bank none } ∧
  exec .decode11100None s = .next { s with reply := .bank none } ∧
  exec .decode11111None s = .next { s with reply := .bank none } ∧
  exec .decode01111Bank4 s = .next { s with reply := .bank (some 4) } ∧
  exec .decode10111Bank3 s = .next { s with reply := .bank (some 3) } ∧
  exec .decode11011Bank2 s = .next { s with reply := .bank (some 2) } ∧
  exec .decode11101Bank1 s = .next { s with reply := .bank (some 1) } ∧
  exec .decode11110Bank0 s = .next { s with reply := .bank (some 0) }

/-- For every select code ce and bank b: Decode(ce) = some b if and only if bit b of ce is 0 and no other of the five
bits is 0. The spec marks this equivalence as its own inference from the table. Rests on 41_chip_select_decoder.md,
after the table: "Decode(ce) = some b exactly when ce has exactly one 0 bit, and that bit is bit b". -/
def Obligations.DecodeSelectsTheOneLowLine : Prop :=
  ∀ (ce : SelectCode) (b : Bank), selectBank ce = some b ↔ ∀ i : Bank, ce.getLsbD i.val = false ↔ i = b

/-- Where the agenda lists pin levels next, SAMPLE answers a next state whose reply is the sample of exactly those
levels, with addr the raw address value modulo 1024 (as a 10-bit value); nothing else changes but that those levels
are used up. That the address is the low ten bits of every raw value is the spec's own reading D5 (log 19); reply
and agenda are the model's own fields (log 1, 4). Rests on 40_bus_port.md, SAMPLE: "all four fields come from one
instant"; 30_encoding.md section 2 (the address mask); 92_eei_decisions.md D5; notes/assumptions/19.md;
notes/assumptions/1.md. -/
def Obligations.SampleReadsThePinsAndMasksTheAddress : Prop :=
  ∀ (s : State) (pins : Pins) (rest : List Input), s.agenda = .poll pins :: rest →
    exec .sample s = .next { s with
      agenda := rest
      reply := .sample ⟨BitVec.ofNat 10 (pins.rawAddr % 1024), pins.ce, pins.we, pins.data⟩ }

/-- Where the agenda does not list pin levels next, SAMPLE answers a next state whose reply is the next sample of the
unconstrained stream of Config, and only the count of such samples advances. The stream is the model's form of "the
sample is an input of the step drawn from the environment" (log 1). Rests on 40_bus_port.md, after SAMPLE: "the
sample is an input of the step drawn from the environment"; notes/assumptions/1.md. -/
def Obligations.UnlistedSampleIsAnyLevels : Prop :=
  ∀ s : State, (∀ (pins : Pins) (rest : List Input), s.agenda ≠ .poll pins :: rest) →
    exec .sample s = .next { s with
      freeSamples := s.freeSamples + 1
      reply := .sample ⟨BitVec.ofNat 10 (Config.busAddr s.freeSamples % 2 ^ Config.rawAddrBits % 1024),
        Config.busSelect s.freeSamples, Config.busStrobe s.freeSamples, Config.busData s.freeSamples⟩ }

/-- SET_DIR d answers the next state with st.dir = d and every other field as before; where st.dir is d already it
changes nothing. Formalises R82. -/
def Obligations.SetDirWritesTheDirectionOnly : Prop :=
  ∀ (d : Dir) (s : State), exec (.setDir d) s = .next { s with dir := d } ∧ (s.dir = d → exec (.setDir d) s = .next s)

/-- DRIVE v answers the next state with st.out = v and every other field as before; the lines then show v if st.dir is
Output and are Z if it is Input; where st.out is v already nothing changes. Rests on 40_bus_port.md, DRIVE
(operands, pseudocode, first three sentences of its corner cases). -/
def Obligations.DriveWritesTheLatchOnly : Prop :=
  ∀ (v : Nibble) (s : State),
    exec (.drive v) s = .next { s with out := v } ∧
    lines { s with out := v } = (if s.dir = .output then some v else none) ∧
    (s.out = v → exec (.drive v) s = .next s)

/-- While st.dir is Input the data lines are not driven by the block, and while it is Output they show st.out, bit by
bit. Formalises R83. -/
def Obligations.LinesAreZInInputAndTheLatchInOutput : Prop :=
  ∀ s : State, (s.dir = .input → lines s = none) ∧
    (s.dir = .output → ∃ v, lines s = some v ∧ ∀ i : Fin 4, v.getLsbD i.val = s.out.getLsbD i.val)

/-- MEM_READ (b, a) answers a next state in which every field of the spec is as before and the model's own field reply
(log 4) holds the cell; read again in that state, with nothing in between, the cell is the same; and a cell that the
Store does not list, as it lists none that nothing has written, reads as its initial fill. The list of the cells
that differ from their fill is the model's form of the Store (log 7); over runs EveryCellHoldsItsLastCommit says it
without the list. Rests on 42_memory_store.md, READ (pseudocode, State written: none, corner cases);
notes/assumptions/4.md; notes/assumptions/7.md. -/
def Obligations.MemReadHandsBackTheCellAndWritesNothing : Prop :=
  ∀ (b : Bank) (a : Addr) (s : State),
    exec (.memRead b a) s = .next { s with reply := .cell (memRead b a s) } ∧
    memRead b a { s with reply := .cell (memRead b a s) } = memRead b a s ∧
    (Memory.lookup (cellKey b a) s.mem = none → memRead b a s = initialCell b a)

/-- MEM_WRITE (b, a) v answers a next state in which the cell (b, a) reads as v, every other cell of the five banks
reads as before, and every field but the Store is as before. Formalises R48. -/
def Obligations.MemWriteChangesOneCellOnly : Prop :=
  ∀ (b : Bank) (a : Addr) (v : Nibble) (s : State), ∃ t : State,
    exec (.memWrite b a v) s = .next t ∧
    (∀ (b' : Bank) (a' : Addr), memRead b' a' t = if b' = b ∧ a' = a then v else memRead b' a' s) ∧
    t = { s with mem := t.mem }

/-- Where the Store has its canonical form and the cell (b, a) reads as v, MEM_WRITE (b, a) v answers the very same
state, as data. Rests on 42_memory_store.md, MemWrite: "writing the value a cell already holds changes nothing";
notes/assumptions/7.md (the canonical form). -/
def Obligations.WritingTheHeldValueChangesNothing : Prop :=
  ∀ (b : Bank) (a : Addr) (v : Nibble) (s : State), Memory.wf s.mem = true → memRead b a s = v →
    exec (.memWrite b a v) s = .next s

/-- If two memories have the canonical form and every cell (b, a) reads the same in both, they are the same list. This
is the model's own form of the Store (log 7). Rests on 20_memory.md section 1 (no holes, no aliases);
notes/assumptions/7.md. -/
def Obligations.CanonicalStoresWithEqualCellsAreEqual : Prop :=
  ∀ m m' : Memory, Memory.wf m = true → Memory.wf m' = true →
    (∀ (b : Bank) (a : Addr), Memory.readCell b a m = Memory.readCell b a m') → m = m'

/-- EMIT e answers the next state in which a present Observer's event stream has e appended and every other field is as
before; in a build without an Observer the state is unchanged. That a build has no Observer is how the model drops
events (log 10). Formalises R140. -/
def Obligations.EmitReachesAPresentObserverOnly : Prop :=
  ∀ (e : Event) (s : State),
    exec (.emit e) s = .next { s with observer := heard [e] s.observer } ∧
    (s.observer = none → exec (.emit e) s = .next s) ∧
    (∀ o : Observer, s.observer = some o → heard [e] s.observer = some ⟨o.events ++ [e], o.readings⟩)

/-- For a sample whose select code decodes to none, Idle selects IDLE_DESELECTED if the code is 11111 and IDLE_INVALID
otherwise, whatever the strobe, address and data are, and both answer the same state. Formalises R113. -/
def Obligations.IdleWithoutABankChangesNothing : Prop :=
  ∀ (p : Sample) (s : State), selectBank p.ce = none →
    decodeIdle p.pack = (if p.ce = 0b11111#5 then .idleDeselected p else .idleInvalid p) ∧
    exec (.idleDeselected p) s = .next s ∧ exec (.idleInvalid p) s = .next s

/-- For each bank b and each sample with b's valid code and we = 1, Idle selects ENTER_READ_Bb, which answers the next
state with st.bank = some b, st.dir = Output, st.out the cell (b, s.addr), st.mode = SelRead, the events Select(b,
read) and Read(b, s.addr, v) emitted in that order, and every other field, the Store included, as before. The data
field is not used. Where events are emitted is fixed by the spec's decision D16 (log 10). Formalises R111. -/
def Obligations.EnterReadLatchesTheBankAndDrivesTheCell : Prop :=
  ∀ (p : Sample) (s : State), p.we = true →
    let entered (b : Bank) : State := { s with
      bank := some b
      dir := .output
      out := memRead b p.addr s
      mode := .selRead
      observer := heard [.select b .read, .read b p.addr (memRead b p.addr s)] s.observer }
    (p.ce = 0b11110#5 → decodeIdle p.pack = .enterReadB0 p ∧ exec (.enterReadB0 p) s = .next (entered 0)) ∧
    (p.ce = 0b11101#5 → decodeIdle p.pack = .enterReadB1 p ∧ exec (.enterReadB1 p) s = .next (entered 1)) ∧
    (p.ce = 0b11011#5 → decodeIdle p.pack = .enterReadB2 p ∧ exec (.enterReadB2 p) s = .next (entered 2)) ∧
    (p.ce = 0b10111#5 → decodeIdle p.pack = .enterReadB3 p ∧ exec (.enterReadB3 p) s = .next (entered 3)) ∧
    (p.ce = 0b01111#5 → decodeIdle p.pack = .enterReadB4 p ∧ exec (.enterReadB4 p) s = .next (entered 4))

/-- For each bank b and each sample with b's valid code and we = 0, Idle selects ENTER_WRITE_Bb, which answers the next
state with st.bank = some b, st.dir = Input, st.mode = SelWrite, the event Select(b, write) emitted, and every other
field, the Store included, as before; the address and data of the sample are not used. Where events are emitted is
fixed by the spec's decision D16 (log 10). Formalises R112. -/
def Obligations.EnterWriteLatchesTheBankAndWritesNothing : Prop :=
  ∀ (p : Sample) (s : State), p.we = false →
    let entered (b : Bank) : State := { s with
      bank := some b
      dir := .input
      mode := .selWrite
      observer := heard [.select b .write] s.observer }
    (p.ce = 0b11110#5 → decodeIdle p.pack = .enterWriteB0 p ∧ exec (.enterWriteB0 p) s = .next (entered 0)) ∧
    (p.ce = 0b11101#5 → decodeIdle p.pack = .enterWriteB1 p ∧ exec (.enterWriteB1 p) s = .next (entered 1)) ∧
    (p.ce = 0b11011#5 → decodeIdle p.pack = .enterWriteB2 p ∧ exec (.enterWriteB2 p) s = .next (entered 2)) ∧
    (p.ce = 0b10111#5 → decodeIdle p.pack = .enterWriteB3 p ∧ exec (.enterWriteB3 p) s = .next (entered 3)) ∧
    (p.ce = 0b01111#5 → decodeIdle p.pack = .enterWriteB4 p ∧ exec (.enterWriteB4 p) s = .next (entered 4))

/-- In SelRead every sample with ce other than 11111 and we = 1 selects SERVE_READ, which for the latched bank b answers
the next state with st.out the cell (b, s.addr), the event Read(b, s.addr, v) emitted, and every other field, mode
and bank and Store included, as before. Where events are emitted is fixed by the spec's decision D16 (log 10).
Formalises R114. -/
def Obligations.ServeReadDrivesTheLatchedBanksCell : Prop :=
  ∀ (p : Sample) (s : State) (b : Bank), p.ce ≠ 0b11111#5 → p.we = true → s.bank = some b →
    decodeSelRead p.pack = .serveRead p ∧
    exec (.serveRead p) s = .next { s with
      out := memRead b p.addr s
      observer := heard [.read b p.addr (memRead b p.addr s)] s.observer }

/-- In SelRead every sample with ce other than 11111 and we = 0 selects READ_TO_WRITE, which answers the next state with
st.dir = Input, st.mode = SelWrite and every other field as before: the bank, the latch, the Store and the Observer.
Rests on 43_bus_engine.md section 3, READ_TO_WRITE; 92_eei_decisions.md D9 (log 15). -/
def Obligations.ReadToWriteTurnsToInputAtOnce : Prop :=
  ∀ (p : Sample) (s : State), p.ce ≠ 0b11111#5 → p.we = false →
    decodeSelRead p.pack = .readToWrite p ∧
    exec (.readToWrite p) s = .next { s with dir := .input, mode := .selWrite }

/-- In SelRead every sample with ce = 11111, whatever the strobe, selects READ_DESELECT, which for the latched bank b
answers the next state with st.bank = none, st.settle = SETTLE_POLLS, st.mode = ReadSettle, the event Deselect(b)
emitted and every other field as before: st.dir and st.out keep their values. Where events are emitted is fixed by
the spec's decision D16 (log 10). Formalises R118. -/
def Obligations.ReadDeselectLoadsTheSettleDelay : Prop :=
  ∀ (p : Sample) (s : State) (b : Bank), p.ce = 0b11111#5 → s.bank = some b →
    decodeSelRead p.pack = .readDeselect p ∧
    exec (.readDeselect p) s = .next { s with
      bank := none
      settle := Config.settlePolls
      mode := .readSettle
      observer := heard [.deselect b] s.observer }

/-- Where st.settle is n + 1, ReadSettle selects SETTLE_COUNT, which answers the next state with st.settle = n and every
other field as before. Formalises R120. -/
def Obligations.SettleCountTakesOneOff : Prop :=
  ∀ (s : State) (n : Nat), s.settle = n + 1 →
    decodeReadSettle s.settle = .settleCount ∧ exec .settleCount s = .next { s with settle := n }

/-- Where st.settle is 0, ReadSettle selects SETTLE_RELEASE, which answers the next state with st.dir = Input, st.mode =
Idle and every other field as before. Rests on 43_bus_engine.md section 4, SETTLE_RELEASE (its pseudocode). -/
def Obligations.SettleReleaseReturnsToIdle : Prop :=
  ∀ s : State, s.settle = 0 →
    decodeReadSettle s.settle = .settleRelease ∧
    exec .settleRelease s = .next { s with dir := .input, mode := .idle }

/-- In SelWrite every sample with ce = 11111 selects WRITE_DESELECT. For the latched bank b it answers a next state with
st.bank = none, st.mode = Idle and every field but the Store and the Observer as before. With we = 0 the Store is as
before and only Deselect(b) is emitted, whatever COMMIT_ON_TIE is. With we = 1: if COMMIT_ON_TIE holds, the cell (b,
s.addr) reads as s.data, every other cell as before, and Write then Deselect are emitted; if it does not hold, every
cell reads as before and only Deselect is emitted. Rests on 43_bus_engine.md section 5, WRITE_DESELECT;
92_eei_decisions.md D6, D7, D26. -/
def Obligations.WriteDeselectCommitsOnlyOnTheTie : Prop :=
  ∀ (p : Sample) (s : State) (b : Bank), p.ce = 0b11111#5 → s.bank = some b →
    decodeSelWrite p.pack = .writeDeselect p ∧
    (p.we = false →
      exec (.writeDeselect p) s = .next { s with
        bank := none
        mode := .idle
        observer := heard [.deselect b] s.observer }) ∧
    (p.we = true → ∃ t : State,
      exec (.writeDeselect p) s = .next t ∧
      (∀ (b' : Bank) (a' : Addr), memRead b' a' t =
        if Config.commitOnTie = true ∧ b' = b ∧ a' = p.addr then p.data else memRead b' a' s) ∧
      t = { s with
        bank := none
        mode := .idle
        mem := t.mem
        observer := heard (if Config.commitOnTie then [.write b p.addr p.data, .deselect b] else [.deselect b])
          s.observer })

/-- In SelWrite every sample with ce other than 11111 and we = 0 selects WRITE_HOLD, which answers the same state,
whatever the address, data and select code are. Formalises R123. -/
def Obligations.WriteHoldChangesNothing : Prop :=
  ∀ (p : Sample) (s : State), p.ce ≠ 0b11111#5 → p.we = false →
    decodeSelWrite p.pack = .writeHold p ∧ exec (.writeHold p) s = .next s

/-- In SelWrite every sample with ce other than 11111 and we = 1 selects WRITE_COMMIT, which for the latched bank b
answers a next state in which the cell (b, s.addr) reads as s.data, every other cell reads as before, st.mode is
SelWriteDone, Write(b, s.addr, s.data) is emitted and every other field is as before. Where events are emitted is
fixed by the spec's decision D16 (log 10). Formalises R124. -/
def Obligations.WriteCommitStoresTheEdgeSample : Prop :=
  ∀ (p : Sample) (s : State) (b : Bank), p.ce ≠ 0b11111#5 → p.we = true → s.bank = some b →
    decodeSelWrite p.pack = .writeCommit p ∧
    ∃ t : State, exec (.writeCommit p) s = .next t ∧
      (∀ (b' : Bank) (a' : Addr), memRead b' a' t = if b' = b ∧ a' = p.addr then p.data else memRead b' a' s) ∧
      t = { s with
        mode := .selWriteDone
        mem := t.mem
        observer := heard [.write b p.addr p.data] s.observer }

/-- In SelWriteDone every sample with ce other than 11111, whatever its strobe, selects DONE_WAIT, which answers the
same state. Rests on 43_bus_engine.md section 6, DONE_WAIT; 92_eei_decisions.md D8 (log 14). -/
def Obligations.DoneWaitIgnoresTheStrobe : Prop :=
  ∀ (p : Sample) (s : State), p.ce ≠ 0b11111#5 →
    decodeSelWriteDone p.pack = .doneWait p ∧ exec (.doneWait p) s = .next s

/-- In SelWriteDone every sample with ce = 11111 selects DONE_DESELECT, which for the latched bank b answers the next
state with st.bank = none, st.mode = Idle, Deselect(b) emitted and every other field as before; the next step of the
engine samples. Where events are emitted is fixed by the spec's decision D16 (log 10). Formalises R126. -/
def Obligations.DoneDeselectReturnsToIdleAtOnce : Prop :=
  ∀ (p : Sample) (s : State) (b : Bank), p.ce = 0b11111#5 → s.bank = some b →
    let t : State := { s with bank := none, mode := .idle, observer := heard [.deselect b] s.observer }
    decodeSelWriteDone p.pack = .doneDeselect p ∧ exec (.doneDeselect p) s = .next t ∧
    enginePoll t = .run (decodeIdle (busSample t).pack) (passSample t)

/-- For every instruction and every state exec answers a next state: no operation faults and none refuses. Rests on
60_exceptions.md section 1: "the engine has no fault state"; 43_bus_engine.md section 7: "never has an undefined
step and never blocks"; notes/assumptions/8.md (a selected mode without a bank). -/
def Obligations.EveryOperationCompletes : Prop :=
  ∀ (i : Instr) (s : State), ∃ t : State, exec i s = .next t

/-- For every sample and settle count: in each mode that samples, the first row of the decision table that the packed
sample meets is the transition the dispatcher picks from the fields (deselection first, then the strobe); in
ReadSettle the row selected by st.settle is the dispatcher's. The order of the tests is the spec's decision D6 (log
13). Rests on 30_encoding.md section 3 (the decision table); 43_bus_engine.md section 1 (the dispatcher);
92_eei_decisions.md D6. -/
def Obligations.TableAgreesWithTheDispatcher : Prop :=
  ∀ (m : Mode) (settle : Nat) (p : Sample),
    (m ≠ .readSettle → decode m (.sample20 p.pack) = .ok (dispatch m settle p)) ∧
    (m = .readSettle → decodeReadSettle settle = dispatch m settle p)

/-- For every mode but ReadSettle and every sample there is an operation of that mode, well formed, that carries the
sample, and any two such operations are the same: the rows are complete and exclusive. The spec marks this as its
own inference. Rests on 43_bus_engine.md section 7: "The transitions are complete and exclusive."; 30_encoding.md
section 3: "The table is complete". -/
def Obligations.ExactlyOneRowMeetsASample : Prop :=
  ∀ (m : Mode) (p : Sample), m ≠ .readSettle →
    (∃ i : Instr, i.wf = true ∧ i.sampleRow.map SampleRow.mode = some m ∧ i.sample? = some p) ∧
    ∀ i j : Instr, i.wf = true → j.wf = true → i.sampleRow.map SampleRow.mode = some m →
      j.sampleRow.map SampleRow.mode = some m → i.sample? = some p → j.sample? = some p → i = j

/-- For every well-formed instruction, with every operand at every value: if encode gives it a word, decode in the mode
of its row gives the instruction from that word; and encode gives no word exactly to the operations that have
neither a sample row nor a select code, as the spec has it. Rests on 30_encoding.md sections 1, 3 and 6;
92_eei_decisions.md D2, D3, D4 (log 20). -/
def Obligations.DecodeOfEncodeIsTheInstruction : Prop :=
  ∀ i : Instr, i.wf = true →
    (∀ w : BusWord, encode i = .ok w → decode i.rowMode w = .ok i) ∧
    (encode i = .error .noWord ↔ i.sampleRow = none ∧ i.selectCode = none)

/-- A select code decodes in every mode, a sample word in every mode but ReadSettle, where no sample is taken and the
decoder says so by name; and whatever a word decodes to, in whatever mode, is well formed and encodes to that word,
and for a sample it is a row of that mode. Rests on 30_encoding.md sections 3 and 4 ("No sample is illegal, reserved
or a hint"); 43_bus_engine.md section 4 (ReadSettle takes no sample); 92_eei_decisions.md D2 (log 20). -/
def Obligations.EncodeOfDecodeIsTheWord : Prop :=
  (∀ (m : Mode) (ce : SelectCode), ∃ i : Instr, decode m (.ce5 ce) = .ok i) ∧
  (∀ (m : Mode) (v : SampleWord), m ≠ .readSettle → ∃ i : Instr, decode m (.sample20 v) = .ok i) ∧
  (∀ v : SampleWord, decode .readSettle (.sample20 v) = .error .noSampleInReadSettle) ∧
  ∀ (m : Mode) (w : BusWord) (i : Instr), decode m w = .ok i →
    i.wf = true ∧ encode i = .ok w ∧ (∀ v : SampleWord, w = .sample20 v → i.sampleRow.map SampleRow.mode = some m)

/-- The examples of the engine's rules: 0x0EC10 in Idle is ENTER_READ_B2 at 0x010; 0xC3D23 in Idle is ENTER_WRITE_B4;
0x07000 in Idle is IDLE_INVALID; 0x0F011 in SelRead is SERVE_READ; 0x6BD24 in SelWrite is WRITE_COMMIT of 6 at
0x124; 0x63D24 in SelWriteDone is DONE_WAIT; the select code 11101 is its decode row; a sample in ReadSettle is
refused by name. Rests on 43_bus_engine.md (the examples); 30_encoding.md section 1. -/
def Obligations.SpecExampleWordsDecodeAsTheSpecSays : Prop :=
  decode .idle (.sample20 0x0EC10#20) = .ok (.enterReadB2 ⟨0x010#10, 0b11011#5, true, 0x0#4⟩) ∧
  decode .idle (.sample20 0xC3D23#20) = .ok (.enterWriteB4 ⟨0x123#10, 0b01111#5, false, 0xC#4⟩) ∧
  decode .idle (.sample20 0x07000#20) = .ok (.idleInvalid ⟨0x000#10, 0b11100#5, false, 0x0#4⟩) ∧
  decode .selRead (.sample20 0x0F011#20) = .ok (.serveRead ⟨0x011#10, 0b11100#5, true, 0x0#4⟩) ∧
  decode .selWrite (.sample20 0x6BD24#20) = .ok (.writeCommit ⟨0x124#10, 0b01111#5, true, 0x6#4⟩) ∧
  decode .selWriteDone (.sample20 0x63D24#20) = .ok (.doneWait ⟨0x124#10, 0b01111#5, false, 0x6#4⟩) ∧
  decode .idle (.ce5 0b11101#5) = .ok .decode11101Bank1 ∧
  decode .readSettle (.sample20 0x0FC00#20) = .error .noSampleInReadSettle

/-- For every sample the packed word, as a number, is addr + ce * 1024 + we * 32768 + data * 65536, and unpacking a
packed sample gives it back. The layout is the spec's decision D2 (log 20). Rests on 30_encoding.md section 1
(SAMPLE20); 92_eei_decisions.md D2. -/
def Obligations.SampleWordIsTheSumOfItsFields : Prop :=
  ∀ p : Sample,
    p.pack.toNat = p.addr.toNat + p.ce.toNat * 1024 + p.we.toNat * 32768 + p.data.toNat * 65536 ∧
    Sample.unpack p.pack = p

/-- Where the agenda lists pin levels next and their packed sample decodes in st.mode to i, step is exec of i at the
state with those levels dropped. Where the agenda is empty the same holds of the next unconstrained sample, whose
count then advances. In ReadSettle, on the engine's turn, step is exec of the row st.settle selects at the same
state, and no sample is used up. A look-up of a select code runs its decode row with the look-up dropped. The agenda
and its items are the model's own (log 1, 3). Rests on 43_bus_engine.md section 1 (one engine step is one poll);
notes/assumptions/1.md; notes/assumptions/3.md. -/
def Obligations.StepRunsTheSelectedOperation : Prop :=
  (∀ (s : State) (pins : Pins) (rest : List Input) (i : Instr), s.agenda = .poll pins :: rest →
      decode s.mode (.sample20 pins.toSample.pack) = .ok i → step s = exec i { s with agenda := rest }) ∧
  (∀ (s : State) (i : Instr), s.agenda = [] →
      decode s.mode (.sample20 (freePins s.freeSamples).toSample.pack) = .ok i →
      step s = exec i { s with freeSamples := s.freeSamples + 1 }) ∧
  (∀ s : State, s.mode = .readSettle → engineNext s = true → step s = exec (decodeReadSettle s.settle) s) ∧
  (∀ (s : State) (ce : SelectCode) (rest : List Input) (i : Instr), s.agenda = .lookup ce :: rest →
      decode s.mode (.ce5 ce) = .ok i → step s = exec i { s with agenda := rest })

/-- For every state and every word that decodeTableWord reads as an instruction i: the step after withFetchWord is exec
of i at the state itself, but that for a sample's word st.mode is Idle, the mode the word is read in (the model's
choice, log 2). Rests on 30_encoding.md section 3 (the row is selected by the mode and the sample);
notes/assumptions/2.md. -/
def Obligations.PlacedWordRunsInTheNextStep : Prop :=
  ∀ (s : State) (nbits w : Nat) (i : Instr), decodeTableWord nbits w = some i →
    step (s.withFetchWord nbits w) = exec i { s with mode := if nbits ≤ 8 then s.mode else .idle }

/-- For every state step answers a next state: the engine never halts, never blocks and never faults. Rests on
43_bus_engine.md section 7: "The engine never halts."; 60_exceptions.md section 1. -/
def Obligations.EveryStepAnswersANextState : Prop :=
  ∀ s : State, ∃ t : State, step s = .next t

/-- Where the agenda lists an Observer read of (b, a) next, step answers the next state in which a present Observer has
one more reading, of a value nothing constrains, the count of such values advances, the read is dropped from the
agenda, and every other field is as before. The value is free by the spec's decision D17 (log 11). Rests on
44_observer_interface.md (an Observer read may return any 4-bit value); 92_eei_decisions.md D17;
notes/assumptions/11.md. -/
def Obligations.ObserverReadAddsOneReading : Prop :=
  ∀ (s : State) (b : Bank) (a : Addr) (rest : List Input), s.agenda = .observe b a :: rest →
    step s = .next { s with
      observer := s.observer.map fun o =>
        ⟨o.events, o.readings ++ [⟨b, a, Config.observerReads s.freeReads⟩]⟩
      freeReads := s.freeReads + 1
      agenda := rest }

/-- Where the agenda lists a restart next, step answers the reset state, with only the rest of the agenda and the two
counts of the outside's free values kept, and every cell reads as its initial fill. That a restart is an input of a
step is the model's choice (log 12). Rests on 70_reset_and_hazards.md section 1 (a restart runs the power-on reset
again); 42_memory_store.md (lifetime of the Store); notes/assumptions/12.md. -/
def Obligations.RestartRunsTheResetSequence : Prop :=
  ∀ (s : State) (rest : List Input), s.agenda = .restart :: rest →
    ∃ t : State, step s = .next t ∧
      t = { State.reset with agenda := rest, freeSamples := s.freeSamples, freeReads := s.freeReads } ∧
      ∀ (b : Bank) (a : Addr), memRead b a t = initialCell b a

/-- In State.reset st.mode is Idle, st.bank none, st.settle 0, st.dir Input, the lines are Z, and every cell (b, a)
reads as the low nibble of the preload image if there is one, else as the placeholder. The engine values are the
spec's decision D12 and the low nibble D14 (log 18, 26); nothing is said of st.out. Rests on 10_state.md section 6
(the state after reset); 42_memory_store.md INITIAL FILL; 92_eei_decisions.md D12, D13, D14. -/
def Obligations.ResetIsIdleWithTheInitialFill : Prop :=
  State.reset.mode = .idle ∧ State.reset.bank = none ∧ State.reset.settle = 0 ∧ State.reset.dir = .input ∧
  lines State.reset = none ∧
  ∀ (b : Bank) (a : Addr),
    memRead b a State.reset =
      match Config.preload with
      | some image => (image b a).extractLsb' 0 4
      | none => Config.placeholder b a

/-- State.reset meets the four mode invariants, the bound on the settle count, the canonical form of the Store, and the
width of the raw addresses. Rests on 10_state.md section 5 and section 6; notes/assumptions/7.md. -/
def Obligations.ResetIsAGoodState : Prop :=
  Inv State.reset ∧ AgendaFits State.reset

/-- For every state that meets the four invariants of the spec (Idle: Input and no bank; SelRead: Output and a bank;
SelWrite and SelWriteDone: Input and a bank; ReadSettle: Output and no bank), a step's next state meets them. The
spec marks the invariants as derived from its transition rules. Rests on 10_state.md section 5 (the invariants the
state keeps). -/
def Obligations.EveryStepKeepsTheModeInvariants : Prop :=
  ∀ s t : State, Coherent s → step s = .next t → Coherent t

/-- For every state whose Store has the canonical form (container numbers strictly rising and below 5120, the unused
high nibble 0, no cell listed at its initial fill), a step's next state has it. The form is the model's (log 7).
Rests on 20_memory.md section 1; 10_state.md section 4; notes/assumptions/7.md. -/
def Obligations.EveryStepKeepsTheStoreCanonical : Prop :=
  ∀ s t : State, Memory.wf s.mem = true → step s = .next t → Memory.wf t.mem = true

/-- For every state whose settle count is at most SETTLE_POLLS, and 0 unless the mode is ReadSettle, a step's next state
is such a state. Rests on 10_state.md section 2 (st.settle); 43_bus_engine.md sections 3 and 4. -/
def Obligations.EveryStepKeepsTheSettleCountBounded : Prop :=
  ∀ s t : State, SettleBounded s → step s = .next t → SettleBounded t

/-- Every unconstrained sample has a raw address below 2^RAW_ADDR_BITS, RAW_ADDR_BITS is at least 11, and if all raw
addresses of the agenda fit, they fit after a step. RAW_ADDR_BITS is the spec's open parameter (log 24). Rests on
00_scope.md section 4 (RAW_ADDR_BITS); notes/assumptions/24.md. -/
def Obligations.RawAddressesFitTheirLines : Prop :=
  11 ≤ Config.rawAddrBits ∧ (∀ n : Nat, (freePins n).rawAddr < 2 ^ Config.rawAddrBits) ∧
  ∀ s t : State, AgendaFits s → step s = .next t → AgendaFits t

/-- For every state that meets the mode invariants: the block drives the data lines if and only if the mode is SelRead
or ReadSettle. Rests on 10_state.md section 5; 70_reset_and_hazards.md section 2 (bus contention windows). -/
def Obligations.LinesAreDrivenExactlyInReadAndSettle : Prop :=
  ∀ s : State, Coherent s → DrivesOnlyInReads s ∧ (s.mode = .selRead ∨ s.mode = .readSettle → lines s = some s.out)

/-- From a selected mode, any number of polls none of which samples 11111 runs to a state that is still in a selected
mode and holds the same bank; and a poll that samples 11111 leaves the selected modes. Formalises R128. -/
def Obligations.OnlyTheDeselectCodeLeavesASelectedMode : Prop :=
  (∀ (ps : List Pins) (s : State) (rest : List Input), (∀ p ∈ ps, p.ce ≠ 0b11111#5) → selectedMode s.mode = true →
      s.agenda = ps.map Input.poll ++ rest →
      ∃ t : State, runSteps ps.length s = .next t ∧ selectedMode t.mode = true ∧
        t.bank = s.bank ∧ t.agenda = rest) ∧
  (∀ (s : State) (p : Pins) (rest : List Input), p.ce = 0b11111#5 → selectedMode s.mode = true →
      s.agenda = .poll p :: rest → ∃ t : State, step s = .next t ∧ selectedMode t.mode = false ∧ t.bank = none)

/-- In SelRead with bank b latched and the direction Output, any non-empty list of polls that all show the strobe high,
a code other than 11111 and raw addresses of one cell address a (their low ten bits, log 19), with whatever codes,
data and higher raw address bits, runs to a state whose lines show the cell (b, a) of the Store, and the mode, the
bank, the direction and the Store are as before; and so after each of the polls, since each beginning of the list is
such a list. Formalises R46. -/
def Obligations.RepeatedReadsDriveTheSameNibble : Prop :=
  ∀ (ps : List Pins) (s : State) (b : Bank) (a : Addr) (rest : List Input), ps ≠ [] →
    (∀ p ∈ ps, maskAddr p.rawAddr = a ∧ p.we = true ∧ p.ce ≠ 0b11111#5) →
    s.mode = .selRead → s.bank = some b → s.dir = .output → s.agenda = ps.map Input.poll ++ rest →
    ∃ t : State, runSteps ps.length s = .next t ∧
      lines t = some (memRead b a s) ∧
      t.mode = .selRead ∧ t.bank = some b ∧ t.dir = .output ∧ t.mem = s.mem ∧ t.agenda = rest

/-- From SelRead with bank b and the direction Output, a poll of 11111 whose follow-up inputs are the engine's: after it
and k steps more, for every k up to SETTLE_POLLS, the lines still show the last nibble, the mode is ReadSettle, the
count is SETTLE_POLLS - k and no input has been used up; after SETTLE_POLLS + 1 steps more the mode is Idle, the
lines are Z, the Store is as before and the inputs are still all there. The accounting is the spec's decision D10
(log 16); that no input of the outside falls inside the window is the model's choice (log 1). Rests on
43_bus_engine.md section 4; 70_reset_and_hazards.md section 2 (settle blind window); 92_eei_decisions.md D10;
notes/assumptions/1.md. -/
def Obligations.ReadDeselectionHoldsTheLinesForTheSettleWindow : Prop :=
  ∀ (s : State) (p : Pins) (rest : List Input) (b : Bank), s.mode = .selRead → s.bank = some b → s.dir = .output →
    p.ce = 0b11111#5 → s.agenda = .poll p :: rest → engineNext { s with agenda := rest } = true →
    (∀ k : Nat, k ≤ Config.settlePolls → runSteps (k + 1) s = .next { s with
      bank := none
      settle := Config.settlePolls - k
      mode := .readSettle
      observer := heard [.deselect b] s.observer
      agenda := rest }) ∧
    runSteps (Config.settlePolls + 2) s = .next { s with
      bank := none
      settle := 0
      mode := .idle
      dir := .input
      observer := heard [.deselect b] s.observer
      agenda := rest }

/-- From any Idle state, the three samples of WR b, a, v run to an Idle state in which no bank is latched, the lines are
Z, the cell (b, a mod 1024) reads as v, every other cell of every bank reads as before, and the samples are used up.
The script is the spec's notation D19 (log 23) and the mask of the address its reading D5 (log 19). Rests on
20_memory.md section 3 (a write to (b, a) changes the cell (b, a) and nothing else); 43_bus_engine.md sections 5 and
6; 30_encoding.md section 5 (WR); 92_eei_decisions.md D5, D19; notes/assumptions/19.md; notes/assumptions/23.md. -/
def Obligations.WriteTransactionChangesOneCell : Prop :=
  ∀ (s : State) (b : Bank) (a : Nat) (v : Nibble) (rest : List Input), s.mode = .idle →
    s.agenda = writeScript b a v ++ rest →
    ∃ t : State, runSteps 3 s = .next t ∧
      t.mode = .idle ∧ t.bank = none ∧ lines t = none ∧ t.agenda = rest ∧
      ∀ (b' : Bank) (a' : Addr),
        memRead b' a' t = if b' = b ∧ a' = BitVec.ofNat 10 (a % 1024) then v else memRead b' a' s

/-- From any Idle state: (1) the samples of WR b, a, v, then any number n of deselected samples, then those of RD b, a'
with a' the same cell address, run to a state whose lines show v, with the bank b selected for read; (2) with any
inputs but a restart between the two, so any reads, strobe pulses and writes of any banks, every run that has used
them up with no commit to (b, a) after that of WR and is in Idle before RD b, a' drives v in its next step. Commits
are those of commitsOf, in EveryCellHoldsItsLastCommit. The scripts are the spec's notation D19 (log 23) and the
mask of the address its reading D5 (log 19). Rests on 20_memory.md section 4: "writing nibble v to (b,a) then
reading (b,a) with no intervening write returns v."; 30_encoding.md section 5 (WR, RD, IDLE); 92_eei_decisions.md
D5, D19; notes/assumptions/19.md; notes/assumptions/23.md. -/
def Obligations.WriteThenReadReturnsTheValue : Prop :=
  (∀ (n : Nat) (s : State) (b : Bank) (a a' : Nat) (v : Nibble) (rest : List Input), s.mode = .idle →
      a % 1024 = a' % 1024 → s.agenda = writeScript b a v ++ idleScript n ++ readScript b a' ++ rest →
      ∃ t : State, runSteps (3 + n + 1) s = .next t ∧
        lines t = some v ∧ t.mode = .selRead ∧ t.bank = some b) ∧
  (∀ (m : Nat) (s w u : State) (b : Bank) (a a' : Nat) (v : Nibble) (between rest : List Input),
      s.mode = .idle → a % 1024 = a' % 1024 → (∀ i ∈ between, i ≠ .restart) →
      s.agenda = writeScript b a v ++ between ++ readScript b a' ++ rest →
      runSteps 3 s = .next w → (∀ c ∈ commitsOf m w, ¬(c.1 = b ∧ c.2.1 = maskAddr a)) →
      runSteps m w = .next u → u.mode = .idle → u.agenda = readScript b a' ++ rest →
      ∃ t : State, step u = .next t ∧ lines t = some v)

/-- For every state with no restart to come and every number n of steps: after the run each cell (b, a) reads as the
data of the last of the run's commits to it, and where the run commits nothing to it as it read at the start (from
reset, its initial fill, which counts as committed at boot by the spec's decision D25, log 22). A commit is a poll
in SelWrite with the strobe high and a code other than 11111, or 11111 under COMMIT_ON_TIE, to the latched bank at
the sample's address. Rests on 20_memory.md section 4 (the consistency model is sequential); 92_eei_decisions.md
D25. -/
def Obligations.EveryCellHoldsItsLastCommit : Prop :=
  ∀ (n : Nat) (s t : State), (∀ i ∈ s.agenda, i ≠ .restart) → runSteps n s = .next t →
    ∀ (b : Bank) (a : Addr), memRead b a t = lastCommit b a (commitsOf n s) (memRead b a s)

/-- If a step that is no restart changes what a cell (b, a) reads as, then the engine was in SelWrite and polled, the
strobe of its sample was high, b is the latched bank, a the sample's address and the cell now reads as the sample's
data; and if the sample was 11111, COMMIT_ON_TIE holds. A restart refills the Store (log 12). Formalises R105. -/
def Obligations.OnlyACommitChangesACell : Prop :=
  ∀ (s t : State) (b : Bank) (a : Addr), step s = .next t → (∀ rest : List Input, s.agenda ≠ .restart :: rest) →
    memRead b a t ≠ memRead b a s →
    s.mode = .selWrite ∧ engineNext s = true ∧ (busSample s).we = true ∧ b = latchedBank s ∧
    a = (busSample s).addr ∧ memRead b a t = (busSample s).data ∧
    ((busSample s).ce = 0b11111#5 → Config.commitOnTie = true)

/-- From any state, any number of steps over listed samples that all show the strobe low leaves the Store as it was,
whatever the modes, codes, addresses and data are. Rests on 43_bus_engine.md section 5: "A write-strobe held low
without ever rising does not commit any value"; 95_test_vectors.md X6. -/
def Obligations.StrobeNeverHighNeverCommits : Prop :=
  ∀ (ps : List Pins) (n : Nat) (s : State) (rest : List Input), (∀ p ∈ ps, p.we = false) → n ≤ ps.length →
    s.agenda = ps.map Input.poll ++ rest →
    ∃ t : State, runSteps n s = .next t ∧ t.mem = s.mem

/-- In SelWriteDone any list of samples none of which shows 11111, with whatever strobe pulses, addresses and data, runs
to the same state with those samples used up: no second commit, nothing driven. The spec's decision D8 (log 14).
Rests on 70_reset_and_hazards.md section 2 (one write per selection); 92_eei_decisions.md D8. -/
def Obligations.OneCommitPerSelection : Prop :=
  ∀ (ps : List Pins) (s : State) (rest : List Input), (∀ p ∈ ps, p.ce ≠ 0b11111#5) → s.mode = .selWriteDone →
    s.agenda = ps.map Input.poll ++ rest →
    runSteps ps.length s = .next { s with agenda := rest }

/-- For every state s and the state s0 that is s without its Observer and without the Observer's coming reads: an
Observer read steps s to a state that without its Observer is s0 again; and any other step of s is matched by a step
of s0 so that the two next states are equal without their Observers. The mode, the bank, the count, the direction,
the latch, the lines and the Store are among what is equal. Formalises R144. -/
def Obligations.ObserverNeverInfluencesTheEngine : Prop :=
  ∀ s : State,
    (observerNext s = true → ∃ t : State, step s = .next t ∧ withoutObserver t = withoutObserver s) ∧
    (observerNext s = false → ∃ t u : State, step s = .next t ∧ step (withoutObserver s) = .next u ∧
      withoutObserver t = withoutObserver u ∧ lines t = lines u ∧ ∀ (b : Bank) (a : Addr), memRead b a t = memRead b a u)

/-- From any state whose direction is Input, and from the same state with any other value in st.out, runs of any length
end in states that differ at most in st.out and show the same lines: so the value reset gives st.out, which the spec
leaves open, is never observed. Rests on 10_state.md section 3 (st.out: "The value is never observable");
notes/assumptions/5.md. -/
def Obligations.UndrivenLatchIsNeverSeen : Prop :=
  ∀ (n : Nat) (s : State) (v : Nibble), s.dir = .input →
    ∃ t u : State, runSteps n s = .next t ∧
      runSteps n { s with out := v } = .next u ∧
      u = { t with out := u.out } ∧ lines t = lines u

/-- From every state there is a number of steps after which the runner stops by itself: the agenda is empty and the mode
is not ReadSettle. The runner is the spec's notation (D19, log 23). Rests on 30_encoding.md section 5: "A run
therefore always ends outside ReadSettle."; 92_eei_decisions.md D19. -/
def Obligations.ScriptRunEndsOutsideReadSettle : Prop :=
  ∀ s : State, ∃ (n : Nat) (t : State), runScript n s = .next t ∧ t.agenda = [] ∧ t.mode ≠ .readSettle
end

