-- ==== Sys2Proof/Laws/Decode.lean ====
section
/-! SUPPORT. The packed sample and its fields, and what the masks of the decision table see of them. -/

namespace Sys2Proof

@[simp] theorem unpack_pack (p : Sample) : Sample.unpack p.pack = p := by
  cases p
  simp only [Sample.unpack, Sample.mk.injEq]
  refine ⟨?_, ?_, ?_, ?_⟩
  · ext i hi; interval_cases i <;> simp [Sample.pack]
  · ext i hi; interval_cases i <;> simp [Sample.pack]
  · simp [Sample.pack]
  · ext i hi; interval_cases i <;> simp [Sample.pack]

@[simp] theorem pack_unpack (w : SampleWord) : (Sample.unpack w).pack = w := by
  ext i hi
  interval_cases i <;> simp [Sample.pack, Sample.unpack]

/-- The mask of the deselect rows sees the select field (30_encoding.md R67). -/
theorem pack_and_select (p : Sample) : p.pack &&& 0x07C00#20 = p.ce.setWidth 20 <<< 10 := by
  ext i hi
  interval_cases i <;> simp [Sample.pack]

/-- The mask of the strobe rows sees the strobe (30_encoding.md R67). -/
theorem pack_and_strobe (p : Sample) : p.pack &&& 0x08000#20 = (BitVec.ofBool p.we).setWidth 20 <<< 15 := by
  ext i hi
  interval_cases i <;> simp [Sample.pack]

/-- The mask of the entry rows sees the select field and the strobe (30_encoding.md R67). -/
theorem pack_and_entry (p : Sample) :
    p.pack &&& 0x0FC00#20 = p.ce.setWidth 20 <<< 10 ||| (BitVec.ofBool p.we).setWidth 20 <<< 15 := by
  ext i hi
  interval_cases i <;> simp [Sample.pack]

end Sys2Proof
end

