-- ==== Sys2Proof/Laws/State.lean ====
section
/-! SUPPORT. What every field of the state is after every named update, each true by unfolding the update once. -/

namespace Sys2Proof.Machine

@[simp] theorem setDir_mode (d : Dir) (s : State) : (setDir d s).mode = s.mode := rfl
@[simp] theorem setDir_bank (d : Dir) (s : State) : (setDir d s).bank = s.bank := rfl
@[simp] theorem setDir_settle (d : Dir) (s : State) : (setDir d s).settle = s.settle := rfl
@[simp] theorem setDir_dir (d : Dir) (s : State) : (setDir d s).dir = d := rfl
@[simp] theorem setDir_out (d : Dir) (s : State) : (setDir d s).out = s.out := rfl
@[simp] theorem setDir_mem (d : Dir) (s : State) : (setDir d s).mem = s.mem := rfl
@[simp] theorem setDir_observer (d : Dir) (s : State) : (setDir d s).observer = s.observer := rfl
@[simp] theorem setDir_agenda (d : Dir) (s : State) : (setDir d s).agenda = s.agenda := rfl
@[simp] theorem setDir_freeSamples (d : Dir) (s : State) : (setDir d s).freeSamples = s.freeSamples := rfl
@[simp] theorem setDir_freeReads (d : Dir) (s : State) : (setDir d s).freeReads = s.freeReads := rfl
@[simp] theorem setDir_reply (d : Dir) (s : State) : (setDir d s).reply = s.reply := rfl

@[simp] theorem drive_mode (v : Nibble) (s : State) : (drive v s).mode = s.mode := rfl
@[simp] theorem drive_bank (v : Nibble) (s : State) : (drive v s).bank = s.bank := rfl
@[simp] theorem drive_settle (v : Nibble) (s : State) : (drive v s).settle = s.settle := rfl
@[simp] theorem drive_dir (v : Nibble) (s : State) : (drive v s).dir = s.dir := rfl
@[simp] theorem drive_out (v : Nibble) (s : State) : (drive v s).out = v := rfl
@[simp] theorem drive_mem (v : Nibble) (s : State) : (drive v s).mem = s.mem := rfl
@[simp] theorem drive_observer (v : Nibble) (s : State) : (drive v s).observer = s.observer := rfl
@[simp] theorem drive_agenda (v : Nibble) (s : State) : (drive v s).agenda = s.agenda := rfl
@[simp] theorem drive_freeSamples (v : Nibble) (s : State) : (drive v s).freeSamples = s.freeSamples := rfl
@[simp] theorem drive_freeReads (v : Nibble) (s : State) : (drive v s).freeReads = s.freeReads := rfl
@[simp] theorem drive_reply (v : Nibble) (s : State) : (drive v s).reply = s.reply := rfl

@[simp] theorem memWrite_mode (b : Bank) (a : Addr) (v : Nibble) (s : State) : (memWrite b a v s).mode = s.mode := rfl
@[simp] theorem memWrite_bank (b : Bank) (a : Addr) (v : Nibble) (s : State) : (memWrite b a v s).bank = s.bank := rfl
@[simp] theorem memWrite_settle (b : Bank) (a : Addr) (v : Nibble) (s : State) :
    (memWrite b a v s).settle =
      s.settle := rfl
@[simp] theorem memWrite_dir (b : Bank) (a : Addr) (v : Nibble) (s : State) : (memWrite b a v s).dir = s.dir := rfl
@[simp] theorem memWrite_out (b : Bank) (a : Addr) (v : Nibble) (s : State) : (memWrite b a v s).out = s.out := rfl
@[simp] theorem memWrite_mem (b : Bank) (a : Addr) (v : Nibble) (s : State) :
    (memWrite b a v s).mem =
      Memory.writeCell b a v s.mem := rfl
@[simp] theorem memWrite_observer (b : Bank) (a : Addr) (v : Nibble) (s : State) :
    (memWrite b a v s).observer =
      s.observer := rfl
@[simp] theorem memWrite_agenda (b : Bank) (a : Addr) (v : Nibble) (s : State) :
    (memWrite b a v s).agenda =
      s.agenda := rfl
@[simp] theorem memWrite_freeSamples (b : Bank) (a : Addr) (v : Nibble) (s : State) :
    (memWrite b a v s).freeSamples =
      s.freeSamples := rfl
@[simp] theorem memWrite_freeReads (b : Bank) (a : Addr) (v : Nibble) (s : State) :
    (memWrite b a v s).freeReads =
      s.freeReads := rfl
@[simp] theorem memWrite_reply (b : Bank) (a : Addr) (v : Nibble) (s : State) :
    (memWrite b a v s).reply =
      s.reply := rfl

@[simp] theorem emit_mode (e : Event) (s : State) : (emit e s).mode = s.mode := rfl
@[simp] theorem emit_bank (e : Event) (s : State) : (emit e s).bank = s.bank := rfl
@[simp] theorem emit_settle (e : Event) (s : State) : (emit e s).settle = s.settle := rfl
@[simp] theorem emit_dir (e : Event) (s : State) : (emit e s).dir = s.dir := rfl
@[simp] theorem emit_out (e : Event) (s : State) : (emit e s).out = s.out := rfl
@[simp] theorem emit_mem (e : Event) (s : State) : (emit e s).mem = s.mem := rfl
@[simp] theorem emit_observer (e : Event) (s : State) :
    (emit e s).observer =
      s.observer.map fun o => { o with events := o.events ++ [e] } := rfl
@[simp] theorem emit_agenda (e : Event) (s : State) : (emit e s).agenda = s.agenda := rfl
@[simp] theorem emit_freeSamples (e : Event) (s : State) : (emit e s).freeSamples = s.freeSamples := rfl
@[simp] theorem emit_freeReads (e : Event) (s : State) : (emit e s).freeReads = s.freeReads := rfl
@[simp] theorem emit_reply (e : Event) (s : State) : (emit e s).reply = s.reply := rfl

@[simp] theorem setMode_mode (m : Mode) (s : State) : (setMode m s).mode = m := rfl
@[simp] theorem setMode_bank (m : Mode) (s : State) : (setMode m s).bank = s.bank := rfl
@[simp] theorem setMode_settle (m : Mode) (s : State) : (setMode m s).settle = s.settle := rfl
@[simp] theorem setMode_dir (m : Mode) (s : State) : (setMode m s).dir = s.dir := rfl
@[simp] theorem setMode_out (m : Mode) (s : State) : (setMode m s).out = s.out := rfl
@[simp] theorem setMode_mem (m : Mode) (s : State) : (setMode m s).mem = s.mem := rfl
@[simp] theorem setMode_observer (m : Mode) (s : State) : (setMode m s).observer = s.observer := rfl
@[simp] theorem setMode_agenda (m : Mode) (s : State) : (setMode m s).agenda = s.agenda := rfl
@[simp] theorem setMode_freeSamples (m : Mode) (s : State) : (setMode m s).freeSamples = s.freeSamples := rfl
@[simp] theorem setMode_freeReads (m : Mode) (s : State) : (setMode m s).freeReads = s.freeReads := rfl
@[simp] theorem setMode_reply (m : Mode) (s : State) : (setMode m s).reply = s.reply := rfl

@[simp] theorem setBank_mode (b : Option Bank) (s : State) : (setBank b s).mode = s.mode := rfl
@[simp] theorem setBank_bank (b : Option Bank) (s : State) : (setBank b s).bank = b := rfl
@[simp] theorem setBank_settle (b : Option Bank) (s : State) : (setBank b s).settle = s.settle := rfl
@[simp] theorem setBank_dir (b : Option Bank) (s : State) : (setBank b s).dir = s.dir := rfl
@[simp] theorem setBank_out (b : Option Bank) (s : State) : (setBank b s).out = s.out := rfl
@[simp] theorem setBank_mem (b : Option Bank) (s : State) : (setBank b s).mem = s.mem := rfl
@[simp] theorem setBank_observer (b : Option Bank) (s : State) : (setBank b s).observer = s.observer := rfl
@[simp] theorem setBank_agenda (b : Option Bank) (s : State) : (setBank b s).agenda = s.agenda := rfl
@[simp] theorem setBank_freeSamples (b : Option Bank) (s : State) : (setBank b s).freeSamples = s.freeSamples := rfl
@[simp] theorem setBank_freeReads (b : Option Bank) (s : State) : (setBank b s).freeReads = s.freeReads := rfl
@[simp] theorem setBank_reply (b : Option Bank) (s : State) : (setBank b s).reply = s.reply := rfl

@[simp] theorem setSettle_mode (n : Nat) (s : State) : (setSettle n s).mode = s.mode := rfl
@[simp] theorem setSettle_bank (n : Nat) (s : State) : (setSettle n s).bank = s.bank := rfl
@[simp] theorem setSettle_settle (n : Nat) (s : State) : (setSettle n s).settle = n := rfl
@[simp] theorem setSettle_dir (n : Nat) (s : State) : (setSettle n s).dir = s.dir := rfl
@[simp] theorem setSettle_out (n : Nat) (s : State) : (setSettle n s).out = s.out := rfl
@[simp] theorem setSettle_mem (n : Nat) (s : State) : (setSettle n s).mem = s.mem := rfl
@[simp] theorem setSettle_observer (n : Nat) (s : State) : (setSettle n s).observer = s.observer := rfl
@[simp] theorem setSettle_agenda (n : Nat) (s : State) : (setSettle n s).agenda = s.agenda := rfl
@[simp] theorem setSettle_freeSamples (n : Nat) (s : State) : (setSettle n s).freeSamples = s.freeSamples := rfl
@[simp] theorem setSettle_freeReads (n : Nat) (s : State) : (setSettle n s).freeReads = s.freeReads := rfl
@[simp] theorem setSettle_reply (n : Nat) (s : State) : (setSettle n s).reply = s.reply := rfl

@[simp] theorem setReply_mode (r : Reply) (s : State) : (setReply r s).mode = s.mode := rfl
@[simp] theorem setReply_bank (r : Reply) (s : State) : (setReply r s).bank = s.bank := rfl
@[simp] theorem setReply_settle (r : Reply) (s : State) : (setReply r s).settle = s.settle := rfl
@[simp] theorem setReply_dir (r : Reply) (s : State) : (setReply r s).dir = s.dir := rfl
@[simp] theorem setReply_out (r : Reply) (s : State) : (setReply r s).out = s.out := rfl
@[simp] theorem setReply_mem (r : Reply) (s : State) : (setReply r s).mem = s.mem := rfl
@[simp] theorem setReply_observer (r : Reply) (s : State) : (setReply r s).observer = s.observer := rfl
@[simp] theorem setReply_agenda (r : Reply) (s : State) : (setReply r s).agenda = s.agenda := rfl
@[simp] theorem setReply_freeSamples (r : Reply) (s : State) : (setReply r s).freeSamples = s.freeSamples := rfl
@[simp] theorem setReply_freeReads (r : Reply) (s : State) : (setReply r s).freeReads = s.freeReads := rfl
@[simp] theorem setReply_reply (r : Reply) (s : State) : (setReply r s).reply = r := rfl

@[simp] theorem observe_mode (b : Bank) (a : Addr) (s : State) : (observe b a s).mode = s.mode := rfl
@[simp] theorem observe_bank (b : Bank) (a : Addr) (s : State) : (observe b a s).bank = s.bank := rfl
@[simp] theorem observe_settle (b : Bank) (a : Addr) (s : State) : (observe b a s).settle = s.settle := rfl
@[simp] theorem observe_dir (b : Bank) (a : Addr) (s : State) : (observe b a s).dir = s.dir := rfl
@[simp] theorem observe_out (b : Bank) (a : Addr) (s : State) : (observe b a s).out = s.out := rfl
@[simp] theorem observe_mem (b : Bank) (a : Addr) (s : State) : (observe b a s).mem = s.mem := rfl
@[simp] theorem observe_observer (b : Bank) (a : Addr) (s : State) :
    (observe b a s).observer =
      s.observer.map fun o => { o with readings := o.readings ++ [⟨b, a, Config.observerReads s.freeReads⟩] } := rfl
@[simp] theorem observe_agenda (b : Bank) (a : Addr) (s : State) : (observe b a s).agenda = s.agenda := rfl
@[simp] theorem observe_freeSamples (b : Bank) (a : Addr) (s : State) :
    (observe b a s).freeSamples =
      s.freeSamples := rfl
@[simp] theorem observe_freeReads (b : Bank) (a : Addr) (s : State) :
    (observe b a s).freeReads =
      s.freeReads + 1 := rfl
@[simp] theorem observe_reply (b : Bank) (a : Addr) (s : State) : (observe b a s).reply = s.reply := rfl

@[simp] theorem withAgenda_mode (l : List Input) (s : State) : (withAgenda l s).mode = s.mode := rfl
@[simp] theorem withAgenda_bank (l : List Input) (s : State) : (withAgenda l s).bank = s.bank := rfl
@[simp] theorem withAgenda_settle (l : List Input) (s : State) : (withAgenda l s).settle = s.settle := rfl
@[simp] theorem withAgenda_dir (l : List Input) (s : State) : (withAgenda l s).dir = s.dir := rfl
@[simp] theorem withAgenda_out (l : List Input) (s : State) : (withAgenda l s).out = s.out := rfl
@[simp] theorem withAgenda_mem (l : List Input) (s : State) : (withAgenda l s).mem = s.mem := rfl
@[simp] theorem withAgenda_observer (l : List Input) (s : State) : (withAgenda l s).observer = s.observer := rfl
@[simp] theorem withAgenda_agenda (l : List Input) (s : State) : (withAgenda l s).agenda = l := rfl
@[simp] theorem withAgenda_freeSamples (l : List Input) (s : State) :
    (withAgenda l s).freeSamples =
      s.freeSamples := rfl
@[simp] theorem withAgenda_freeReads (l : List Input) (s : State) : (withAgenda l s).freeReads = s.freeReads := rfl
@[simp] theorem withAgenda_reply (l : List Input) (s : State) : (withAgenda l s).reply = s.reply := rfl

@[simp] theorem restart_mode (s : State) : (restart s).mode = .idle := rfl
@[simp] theorem restart_bank (s : State) : (restart s).bank = none := rfl
@[simp] theorem restart_settle (s : State) : (restart s).settle = 0 := rfl
@[simp] theorem restart_dir (s : State) : (restart s).dir = .input := rfl
@[simp] theorem restart_out (s : State) : (restart s).out = 0 := rfl
@[simp] theorem restart_mem (s : State) : (restart s).mem = [] := rfl
@[simp] theorem restart_observer (s : State) :
    (restart s).observer =
      if Config.observerPresent then some ⟨[], []⟩ else none := rfl
@[simp] theorem restart_agenda (s : State) : (restart s).agenda = s.agenda := rfl
@[simp] theorem restart_freeSamples (s : State) : (restart s).freeSamples = s.freeSamples := rfl
@[simp] theorem restart_freeReads (s : State) : (restart s).freeReads = s.freeReads := rfl
@[simp] theorem restart_reply (s : State) : (restart s).reply = .nothing := rfl

@[simp] theorem passSample_mode (s : State) : (passSample s).mode = s.mode := by
  unfold passSample; split <;> rfl
@[simp] theorem passSample_bank (s : State) : (passSample s).bank = s.bank := by
  unfold passSample; split <;> rfl
@[simp] theorem passSample_settle (s : State) : (passSample s).settle = s.settle := by
  unfold passSample; split <;> rfl
@[simp] theorem passSample_dir (s : State) : (passSample s).dir = s.dir := by
  unfold passSample; split <;> rfl
@[simp] theorem passSample_out (s : State) : (passSample s).out = s.out := by
  unfold passSample; split <;> rfl
@[simp] theorem passSample_mem (s : State) : (passSample s).mem = s.mem := by
  unfold passSample; split <;> rfl
@[simp] theorem passSample_observer (s : State) : (passSample s).observer = s.observer := by
  unfold passSample; split <;> rfl
@[simp] theorem passSample_freeReads (s : State) : (passSample s).freeReads = s.freeReads := by
  unfold passSample; split <;> rfl
@[simp] theorem passSample_reply (s : State) : (passSample s).reply = s.reply := by
  unfold passSample; split <;> rfl

@[simp] theorem reset_mode : State.reset.mode = .idle := rfl
@[simp] theorem reset_bank : State.reset.bank = none := rfl
@[simp] theorem reset_settle : State.reset.settle = 0 := rfl
@[simp] theorem reset_dir : State.reset.dir = .input := rfl
@[simp] theorem reset_mem : State.reset.mem = [] := rfl
@[simp] theorem reset_agenda : State.reset.agenda = [] := rfl

/-- A Sample takes the pin levels that head the agenda. -/
theorem busSample_of_poll {s : State} {p : Pins} {rest : List Input} (h : s.agenda = .poll p :: rest) :
    busSample s = p.toSample := by
  simp [busSample, h]

/-- Using up a listed sample only drops the head of the agenda. -/
theorem passSample_of_poll {s : State} {p : Pins} {rest : List Input} (h : s.agenda = .poll p :: rest) :
    passSample s = withAgenda rest s := by
  simp [passSample, h, withAgenda]

/-- Using up an unlisted sample only advances the count of free samples. -/
theorem passSample_of_empty {s : State} (h : s.agenda = []) :
    passSample s = { s with freeSamples := s.freeSamples + 1 } := by
  simp [passSample, h]

end Sys2Proof.Machine
end

