-- ==== Sys2Proof/Laws/Store.lean ====
section
/-! SUPPORT. The laws of the Store: reading after writing, distinct cells, and the canonical form. -/

namespace Sys2Proof.Machine

theorem cellKey_lt (b : Bank) (a : Addr) : cellKey b a < 5120 := by
  have := b.isLt; have := a.isLt
  unfold cellKey; omega

/-- Distinct pairs name distinct cells (20_memory.md R41). -/
theorem cellKey_inj {b b' : Bank} {a a' : Addr} : cellKey b a = cellKey b' a' ↔ b = b' ∧ a = a' := by
  refine ⟨fun h => ?_, fun h => by rw [h.1, h.2]⟩
  have := a.isLt; have := a'.isLt
  unfold cellKey at h
  exact ⟨Fin.ext (by omega), BitVec.eq_of_toNat_eq (by omega)⟩

@[simp] theorem keyBank_cellKey (b : Bank) (a : Addr) : keyBank (cellKey b a) = b := by
  have := b.isLt; have := a.isLt
  apply Fin.ext; simp only [keyBank, cellKey]; omega

@[simp] theorem keyAddr_cellKey (b : Bank) (a : Addr) : keyAddr (cellKey b a) = a := by
  have := a.isLt
  apply BitVec.eq_of_toNat_eq
  simp only [keyAddr, cellKey, BitVec.toNat_ofNat]; omega

/-- Every container number below 5120 is that of a cell. -/
theorem cellKey_keyBank_keyAddr {k : Nat} (h : k < 5120) : cellKey (keyBank k) (keyAddr k) = k := by
  simp only [cellKey, keyBank, keyAddr, BitVec.toNat_ofNat]; omega

@[simp] theorem setWidth_container (v : Nibble) : BitVec.setWidth 4 (BitVec.setWidth 8 v) = v := by
  ext i hi; simp

@[simp] theorem lookup_erase_same (k : Nat) (m : Memory) : Memory.lookup k (Memory.erase k m) = none := by
  induction m with
  | nil => rfl
  | cons e rest ih =>
    obtain ⟨k', c⟩ := e
    by_cases h : k = k' <;> simp [Memory.erase, Memory.lookup, h] <;> simpa [h] using ih

theorem lookup_erase_other {k k' : Nat} (h : k' ≠ k) (m : Memory) :
    Memory.lookup k' (Memory.erase k m) = Memory.lookup k' m := by
  induction m with
  | nil => rfl
  | cons e rest ih =>
    obtain ⟨j, c⟩ := e
    by_cases hj : k = j
    · subst hj; simp [Memory.erase, Memory.lookup, h, ih]
    · simp [Memory.erase, Memory.lookup, hj, ih]

@[simp] theorem lookup_insert_same (k : Nat) (c : Container) (m : Memory) :
    Memory.lookup k (Memory.insert k c m) = some c := by
  induction m with
  | nil => simp [Memory.insert, Memory.lookup]
  | cons e rest ih =>
    obtain ⟨j, c'⟩ := e
    unfold Memory.insert
    split
    · simp [Memory.lookup]
    · split
      · simp [Memory.lookup]
      · next h => simp [Memory.lookup, h, ih]

theorem lookup_insert_other {k k' : Nat} (h : k' ≠ k) (c : Container) (m : Memory) :
    Memory.lookup k' (Memory.insert k c m) = Memory.lookup k' m := by
  induction m with
  | nil => simp [Memory.insert, Memory.lookup, h]
  | cons e rest ih =>
    obtain ⟨j, c'⟩ := e
    unfold Memory.insert
    split
    · simp [Memory.lookup, h]
    · split
      · next hj => subst hj; simp [Memory.lookup, h]
      · simp [Memory.lookup, ih]

/-- What a cell reads as after any write: the written value in the cell written, and in every other cell what it read as
before (42_memory_store.md R102, 20_memory.md R48). -/
theorem readCell_writeCell (b b' : Bank) (a a' : Addr) (v : Nibble) (m : Memory) :
    Memory.readCell b' a' (Memory.writeCell b a v m) =
      if b' = b ∧ a' = a then v else Memory.readCell b' a' m := by
  by_cases h : b' = b ∧ a' = a
  · obtain ⟨rfl, rfl⟩ := h
    by_cases hv : v = initialCell b' a' <;> simp [Memory.readCell, Memory.writeCell, hv]
  · have hk : cellKey b' a' ≠ cellKey b a := fun e => h (cellKey_inj.1 e)
    by_cases hv : v = initialCell b a <;>
      simp [Memory.readCell, Memory.writeCell, hv, h, lookup_erase_other hk, lookup_insert_other hk]

@[simp] theorem readCell_nil (b : Bank) (a : Addr) : Memory.readCell b a [] = initialCell b a := rfl

theorem mem_erase {e : Host.Cell} {k : Nat} {m : Memory} (h : e ∈ Memory.erase k m) : e ∈ m := by
  induction m with
  | nil => exact h
  | cons f rest ih =>
    obtain ⟨j, c⟩ := f
    unfold Memory.erase at h
    split at h
    · exact List.mem_cons_of_mem _ (ih h)
    · rcases List.mem_cons.1 h with h | h
      · exact List.mem_cons.2 (.inl h)
      · exact List.mem_cons_of_mem _ (ih h)

theorem mem_insert {e : Host.Cell} {k : Nat} {c : Container} {m : Memory} (h : e ∈ Memory.insert k c m) :
    e = (k, c) ∨ e ∈ m := by
  induction m with
  | nil => simpa [Memory.insert] using h
  | cons f rest ih =>
    obtain ⟨j, c'⟩ := f
    unfold Memory.insert at h
    split at h
    · simpa using h
    · split at h
      · rcases List.mem_cons.1 h with h | h
        · exact .inl h
        · exact .inr (List.mem_cons_of_mem _ h)
      · rcases List.mem_cons.1 h with h | h
        · exact .inr (List.mem_cons.2 (.inl h))
        · exact (ih h).imp id (List.mem_cons_of_mem _)

/-- The canonical form, read off a non-empty list. -/
theorem wf_cons (e : Host.Cell) (m : Memory) :
    Memory.wf (e :: m) = true ↔ entryWf e = true ∧ (∀ f ∈ m, e.1 < f.1) ∧ Memory.wf m = true := by
  simp [Memory.wf, and_assoc]

theorem erase_wf (k : Nat) {m : Memory} (h : Memory.wf m = true) : Memory.wf (Memory.erase k m) = true := by
  induction m with
  | nil => rfl
  | cons e rest ih =>
    obtain ⟨j, c⟩ := e
    obtain ⟨he, hlt, hr⟩ := (wf_cons _ _).1 h
    unfold Memory.erase
    split
    · exact ih hr
    · exact (wf_cons _ _).2 ⟨he, fun f hf => hlt f (mem_erase hf), ih hr⟩

theorem insert_wf {k : Nat} {c : Container} (hc : entryWf (k, c) = true) {m : Memory} (h : Memory.wf m = true) :
    Memory.wf (Memory.insert k c m) = true := by
  induction m with
  | nil => exact (wf_cons _ _).2 ⟨hc, by simp, rfl⟩
  | cons e rest ih =>
    obtain ⟨j, c'⟩ := e
    obtain ⟨he, hlt, hr⟩ := (wf_cons _ _).1 h
    unfold Memory.insert
    split
    · next hk =>
      refine (wf_cons _ _).2 ⟨hc, fun f hf => ?_, h⟩
      rcases List.mem_cons.1 hf with rfl | hf
      · exact hk
      · exact Nat.lt_trans hk (hlt f hf)
    · split
      · next hj => subst hj; exact (wf_cons _ _).2 ⟨hc, hlt, hr⟩
      · refine (wf_cons _ _).2 ⟨he, fun f hf => ?_, ih hr⟩
        rcases mem_insert hf with rfl | hf
        · show j < k; omega
        · exact hlt f hf

theorem entryWf_write {b : Bank} {a : Addr} {v : Nibble} (hv : v ≠ initialCell b a) :
    entryWf (cellKey b a, v.setWidth 8) = true := by
  have := cellKey_lt b a
  have hlt : v.toNat < 16 := v.isLt
  simp [entryWf, hv, this, Nat.mod_eq_of_lt (show v.toNat < 256 by omega), hlt]

/-- MemWrite keeps the canonical form. -/
theorem writeCell_wf (b : Bank) (a : Addr) (v : Nibble) {m : Memory} (h : Memory.wf m = true) :
    Memory.wf (Memory.writeCell b a v m) = true := by
  unfold Memory.writeCell
  split
  · exact erase_wf _ h
  · next hv => exact insert_wf (entryWf_write hv) h

/-- The Store after reset has the canonical form. -/
theorem reset_mem_wf : Memory.wf State.reset.mem = true := rfl

end Sys2Proof.Machine
end

