-- ==== Sys2Proof/Laws/Ops.lean ====
section
/-! SUPPORT. What each shared operation does, said once. -/

namespace Sys2Proof.Machine

/-- What a cell reads as after MemWrite (42_memory_store.md R102, 20_memory.md R48). -/
theorem memRead_memWrite (b b' : Bank) (a a' : Addr) (v : Nibble) (s : State) :
    memRead b' a' (memWrite b a v s) = if b' = b ∧ a' = a then v else memRead b' a' s :=
  readCell_writeCell b b' a a' v s.mem

/-- A read depends on the Store alone. -/
theorem memRead_congr {s t : State} (h : t.mem = s.mem) (b : Bank) (a : Addr) : memRead b a t = memRead b a s := by
  simp [memRead, h]

theorem lines_of_output {s : State} (h : s.dir = .output) : lines s = some s.out := by simp [lines, h]

theorem lines_of_input {s : State} (h : s.dir = .input) : lines s = none := by simp [lines, h]

theorem latchedBank_of_some {s : State} {b : Bank} (h : s.bank = some b) : latchedBank s = b := by
  simp [latchedBank, h]

/-- An event is heard by the Observer, if there is one (44_observer_interface.md R140). -/
theorem emit_observer_eq_heard (e : Event) (s : State) : (emit e s).observer = heard [e] s.observer := rfl

theorem heard_heard (es fs : List Event) (o : Option Observer) : heard fs (heard es o) = heard (es ++ fs) o := by
  cases o <;> simp [heard]

@[simp] theorem commit_mem (p : Sample) (s : State) :
    (commit p s).mem = Memory.writeCell (latchedBank s) p.addr p.data s.mem := rfl

@[simp] theorem commit_observer (p : Sample) (s : State) :
    (commit p s).observer = heard [.write (latchedBank s) p.addr p.data] s.observer := rfl

/-- A commit writes the Store and tells the Observer, and nothing else (43_bus_engine.md R124). -/
theorem commit_eq (p : Sample) (s : State) :
    commit p s = { s with mem := (commit p s).mem, observer := (commit p s).observer } := rfl

/-- The end of a write transaction (43_bus_engine.md R122, R126). -/
theorem leaveWrite_eq (s : State) :
    leaveWrite s = { s with mode := .idle, bank := none, observer := heard [.deselect (latchedBank s)] s.observer } := rfl

@[simp] theorem isObserver_poll (p : Pins) : (Input.poll p).isObserver = false := rfl
@[simp] theorem isObserver_lookup (ce : SelectCode) : (Input.lookup ce).isObserver = false := rfl
@[simp] theorem isObserver_observe (b : Bank) (a : Addr) : (Input.observe b a).isObserver = true := rfl
@[simp] theorem isObserver_restart : Input.restart.isObserver = false := rfl

@[simp] theorem withoutObserver_idem (s : State) : withoutObserver (withoutObserver s) = withoutObserver s := by
  simp [withoutObserver]

@[simp] theorem withoutObserver_mem (s : State) : (withoutObserver s).mem = s.mem := rfl

@[simp] theorem withoutObserver_lines (s : State) : lines (withoutObserver s) = lines s := rfl

/-- On the engine's turn the machine polls. -/
theorem turn_of_engineNext {s : State} (h : engineNext s = true) : turn s = enginePoll s := by
  unfold engineNext at h
  unfold turn
  split at h <;> simp_all

/-- A step runs the operation of the turn. -/
theorem step_of_run {s t : State} {i : Instr} (h : turn s = .run i t) : step s = exec i t := by
  simp [step, h]

/-- Where only the outside moves, the step is its move. -/
theorem step_of_outside {s t : State} (h : turn s = .outside t) : step s = .next t := by
  simp [step, h]

/-- One step, and then the rest of the run. -/
theorem runSteps_succ {n : Nat} {s t : State} (h : step s = .next t) : runSteps (n + 1) s = runSteps n t := by
  simp [runSteps, h]

/-- A run in the model's own words is the host's run of the machine. -/
theorem runSteps_eq_run (n : Nat) (s : State) : runSteps n s = Host.Core.run Sys2Proof.core n s := by
  induction n generalizing s with
  | zero => rfl
  | succ n ih =>
    have h : Sys2Proof.core.step s = step s := rfl
    simp only [runSteps, Host.Core.run, h]
    cases step s with
    | next t => exact ih t
    | fault r => rfl
    | refused r => rfl

end Sys2Proof.Machine
end

