-- ==== Sys2Proof/Laws/PerInstr.lean ====
section
/-! SUPPORT. A statement about every instruction as syntax, one lemma per constructor: the word of a well-formed
instruction meets the match and mask of its row (30_encoding.md R67, R72). -/

namespace Sys2Proof.Laws.EncodingMeetsRow

/-- The word a well-formed instruction encodes to meets its row: a sample's word the match under the mask, a select code
the row's code; an instruction without a row has no word. -/
def Statement (i : Instr) : Prop :=
  i.wf = true →
    match i.sampleRow, i.selectCode with
    | some r, _ => ∃ w, encode i = .ok (.sample20 w) ∧ r.accepts w = true
    | none, some ce => encode i = .ok (.ce5 ce)
    | none, none => encode i = .error .noWord

theorem decode00000None : Statement .decode00000None := fun _ => rfl
theorem decode00001None : Statement .decode00001None := fun _ => rfl
theorem decode00010None : Statement .decode00010None := fun _ => rfl
theorem decode00011None : Statement .decode00011None := fun _ => rfl
theorem decode00100None : Statement .decode00100None := fun _ => rfl
theorem decode00101None : Statement .decode00101None := fun _ => rfl
theorem decode00110None : Statement .decode00110None := fun _ => rfl
theorem decode00111None : Statement .decode00111None := fun _ => rfl
theorem decode01000None : Statement .decode01000None := fun _ => rfl
theorem decode01001None : Statement .decode01001None := fun _ => rfl
theorem decode01010None : Statement .decode01010None := fun _ => rfl
theorem decode01011None : Statement .decode01011None := fun _ => rfl
theorem decode01100None : Statement .decode01100None := fun _ => rfl
theorem decode01101None : Statement .decode01101None := fun _ => rfl
theorem decode01110None : Statement .decode01110None := fun _ => rfl
theorem decode01111Bank4 : Statement .decode01111Bank4 := fun _ => rfl
theorem decode10000None : Statement .decode10000None := fun _ => rfl
theorem decode10001None : Statement .decode10001None := fun _ => rfl
theorem decode10010None : Statement .decode10010None := fun _ => rfl
theorem decode10011None : Statement .decode10011None := fun _ => rfl
theorem decode10100None : Statement .decode10100None := fun _ => rfl
theorem decode10101None : Statement .decode10101None := fun _ => rfl
theorem decode10110None : Statement .decode10110None := fun _ => rfl
theorem decode10111Bank3 : Statement .decode10111Bank3 := fun _ => rfl
theorem decode11000None : Statement .decode11000None := fun _ => rfl
theorem decode11001None : Statement .decode11001None := fun _ => rfl
theorem decode11010None : Statement .decode11010None := fun _ => rfl
theorem decode11011Bank2 : Statement .decode11011Bank2 := fun _ => rfl
theorem decode11100None : Statement .decode11100None := fun _ => rfl
theorem decode11101Bank1 : Statement .decode11101Bank1 := fun _ => rfl
theorem decode11110Bank0 : Statement .decode11110Bank0 := fun _ => rfl
theorem decode11111None : Statement .decode11111None := fun _ => rfl
theorem idleDeselected (p : Sample) : Statement (.idleDeselected p) := fun h =>
  ⟨p.pack, rfl, by simp [Instr.wf] at h; simp [SampleRow.accepts, pack_and_select, h]⟩
theorem enterReadB0 (p : Sample) : Statement (.enterReadB0 p) := fun h =>
  ⟨p.pack, rfl, by simp [Instr.wf] at h; simp [SampleRow.accepts, pack_and_entry, h]⟩
theorem enterReadB1 (p : Sample) : Statement (.enterReadB1 p) := fun h =>
  ⟨p.pack, rfl, by simp [Instr.wf] at h; simp [SampleRow.accepts, pack_and_entry, h]⟩
theorem enterReadB2 (p : Sample) : Statement (.enterReadB2 p) := fun h =>
  ⟨p.pack, rfl, by simp [Instr.wf] at h; simp [SampleRow.accepts, pack_and_entry, h]⟩
theorem enterReadB3 (p : Sample) : Statement (.enterReadB3 p) := fun h =>
  ⟨p.pack, rfl, by simp [Instr.wf] at h; simp [SampleRow.accepts, pack_and_entry, h]⟩
theorem enterReadB4 (p : Sample) : Statement (.enterReadB4 p) := fun h =>
  ⟨p.pack, rfl, by simp [Instr.wf] at h; simp [SampleRow.accepts, pack_and_entry, h]⟩
theorem enterWriteB0 (p : Sample) : Statement (.enterWriteB0 p) := fun h =>
  ⟨p.pack, rfl, by simp [Instr.wf] at h; simp [SampleRow.accepts, pack_and_entry, h]⟩
theorem enterWriteB1 (p : Sample) : Statement (.enterWriteB1 p) := fun h =>
  ⟨p.pack, rfl, by simp [Instr.wf] at h; simp [SampleRow.accepts, pack_and_entry, h]⟩
theorem enterWriteB2 (p : Sample) : Statement (.enterWriteB2 p) := fun h =>
  ⟨p.pack, rfl, by simp [Instr.wf] at h; simp [SampleRow.accepts, pack_and_entry, h]⟩
theorem enterWriteB3 (p : Sample) : Statement (.enterWriteB3 p) := fun h =>
  ⟨p.pack, rfl, by simp [Instr.wf] at h; simp [SampleRow.accepts, pack_and_entry, h]⟩
theorem enterWriteB4 (p : Sample) : Statement (.enterWriteB4 p) := fun h =>
  ⟨p.pack, rfl, by simp [Instr.wf] at h; simp [SampleRow.accepts, pack_and_entry, h]⟩
theorem idleInvalid (p : Sample) : Statement (.idleInvalid p) := fun _ =>
  ⟨p.pack, rfl, by simp [SampleRow.accepts]⟩
theorem readDeselect (p : Sample) : Statement (.readDeselect p) := fun h =>
  ⟨p.pack, rfl, by simp [Instr.wf] at h; simp [SampleRow.accepts, pack_and_select, h]⟩
theorem readToWrite (p : Sample) : Statement (.readToWrite p) := fun h =>
  ⟨p.pack, rfl, by simp [Instr.wf] at h; simp [SampleRow.accepts, pack_and_strobe, h]⟩
theorem serveRead (p : Sample) : Statement (.serveRead p) := fun _ =>
  ⟨p.pack, rfl, by simp [SampleRow.accepts]⟩
theorem settleCount : Statement .settleCount := fun _ => rfl
theorem settleRelease : Statement .settleRelease := fun _ => rfl
theorem writeDeselect (p : Sample) : Statement (.writeDeselect p) := fun h =>
  ⟨p.pack, rfl, by simp [Instr.wf] at h; simp [SampleRow.accepts, pack_and_select, h]⟩
theorem writeHold (p : Sample) : Statement (.writeHold p) := fun h =>
  ⟨p.pack, rfl, by simp [Instr.wf] at h; simp [SampleRow.accepts, pack_and_strobe, h]⟩
theorem writeCommit (p : Sample) : Statement (.writeCommit p) := fun _ =>
  ⟨p.pack, rfl, by simp [SampleRow.accepts]⟩
theorem doneDeselect (p : Sample) : Statement (.doneDeselect p) := fun h =>
  ⟨p.pack, rfl, by simp [Instr.wf] at h; simp [SampleRow.accepts, pack_and_select, h]⟩
theorem doneWait (p : Sample) : Statement (.doneWait p) := fun _ =>
  ⟨p.pack, rfl, by simp [SampleRow.accepts]⟩
theorem sample : Statement .sample := fun _ => rfl
theorem setDir (d : Dir) : Statement (.setDir d) := fun _ => rfl
theorem drive (v : Nibble) : Statement (.drive v) := fun _ => rfl
theorem decode (ce : SelectCode) : Statement (.decode ce) := fun _ => rfl
theorem memRead (b : Bank) (a : Addr) : Statement (.memRead b a) := fun _ => rfl
theorem memWrite (b : Bank) (a : Addr) (v : Nibble) : Statement (.memWrite b a v) := fun _ => rfl
theorem emit (e : Event) : Statement (.emit e) := fun _ => rfl

end Sys2Proof.Laws.EncodingMeetsRow
end

