-- ==== Sys2Proof/Tests/Slice0.lean ====
section
/-! SUPPORT. The model's own tests: well-formedness refuses, the spec's words decode, the spec's vectors of
95_test_vectors.md run (V numbers), and every statement with hypotheses has a state and operands that meet them. -/

namespace Sys2Proof.Tests
open Sys2Proof Sys2Proof.Machine

/-- A sample from its fields, in the order of a script line (30_encoding.md R70). -/
def smp (ce : SelectCode) (we : Bool) (a : Addr) (d : Nibble) : Sample := ⟨a, ce, we, d⟩

/-! Well-formedness: for each check a term that breaks it. -/

theorem test_wf_refuses_idleDeselected :
    Instr.wf (.idleDeselected (smp 0b11110#5 true 0 0)) = false := by decide

theorem test_wf_refuses_enterReadB0 :
    Instr.wf (.enterReadB0 (smp 0b11101#5 true 0 0)) = false ∧
    Instr.wf (.enterReadB0 (smp 0b11110#5 false 0 0)) = false := by decide

theorem test_wf_refuses_enterReadB1 :
    Instr.wf (.enterReadB1 (smp 0b11011#5 true 0 0)) = false ∧
    Instr.wf (.enterReadB1 (smp 0b11101#5 false 0 0)) = false := by decide

theorem test_wf_refuses_enterReadB2 :
    Instr.wf (.enterReadB2 (smp 0b10111#5 true 0 0)) = false ∧
    Instr.wf (.enterReadB2 (smp 0b11011#5 false 0 0)) = false := by decide

theorem test_wf_refuses_enterReadB3 :
    Instr.wf (.enterReadB3 (smp 0b01111#5 true 0 0)) = false ∧
    Instr.wf (.enterReadB3 (smp 0b10111#5 false 0 0)) = false := by decide

theorem test_wf_refuses_enterReadB4 :
    Instr.wf (.enterReadB4 (smp 0b11110#5 true 0 0)) = false ∧
    Instr.wf (.enterReadB4 (smp 0b01111#5 false 0 0)) = false := by decide

theorem test_wf_refuses_enterWriteB0 :
    Instr.wf (.enterWriteB0 (smp 0b11101#5 false 0 0)) = false ∧
    Instr.wf (.enterWriteB0 (smp 0b11110#5 true 0 0)) = false := by decide

theorem test_wf_refuses_enterWriteB1 :
    Instr.wf (.enterWriteB1 (smp 0b11011#5 false 0 0)) = false ∧
    Instr.wf (.enterWriteB1 (smp 0b11101#5 true 0 0)) = false := by decide

theorem test_wf_refuses_enterWriteB2 :
    Instr.wf (.enterWriteB2 (smp 0b10111#5 false 0 0)) = false ∧
    Instr.wf (.enterWriteB2 (smp 0b11011#5 true 0 0)) = false := by decide

theorem test_wf_refuses_enterWriteB3 :
    Instr.wf (.enterWriteB3 (smp 0b01111#5 false 0 0)) = false ∧
    Instr.wf (.enterWriteB3 (smp 0b10111#5 true 0 0)) = false := by decide

theorem test_wf_refuses_enterWriteB4 :
    Instr.wf (.enterWriteB4 (smp 0b11110#5 false 0 0)) = false ∧
    Instr.wf (.enterWriteB4 (smp 0b01111#5 true 0 0)) = false := by decide

theorem test_wf_refuses_idleInvalid :
    Instr.wf (.idleInvalid (smp 0b11111#5 true 0 0)) = false ∧
    Instr.wf (.idleInvalid (smp 0b11110#5 false 0 0)) = false ∧
    Instr.wf (.idleInvalid (smp 0b11101#5 false 0 0)) = false ∧
    Instr.wf (.idleInvalid (smp 0b11011#5 false 0 0)) = false ∧
    Instr.wf (.idleInvalid (smp 0b10111#5 false 0 0)) = false ∧
    Instr.wf (.idleInvalid (smp 0b01111#5 false 0 0)) = false := by decide

theorem test_wf_refuses_readDeselect :
    Instr.wf (.readDeselect (smp 0b11110#5 true 0 0)) = false := by decide

theorem test_wf_refuses_readToWrite :
    Instr.wf (.readToWrite (smp 0b11111#5 false 0 0)) = false ∧
    Instr.wf (.readToWrite (smp 0b11110#5 true 0 0)) = false := by decide

theorem test_wf_refuses_serveRead :
    Instr.wf (.serveRead (smp 0b11111#5 true 0 0)) = false ∧
    Instr.wf (.serveRead (smp 0b11110#5 false 0 0)) = false := by decide

theorem test_wf_refuses_writeDeselect :
    Instr.wf (.writeDeselect (smp 0b11110#5 true 0 0)) = false := by decide

theorem test_wf_refuses_writeHold :
    Instr.wf (.writeHold (smp 0b11111#5 false 0 0)) = false ∧
    Instr.wf (.writeHold (smp 0b11110#5 true 0 0)) = false := by decide

theorem test_wf_refuses_writeCommit :
    Instr.wf (.writeCommit (smp 0b11111#5 true 0 0)) = false ∧
    Instr.wf (.writeCommit (smp 0b11110#5 false 0 0)) = false := by decide

theorem test_wf_refuses_doneDeselect :
    Instr.wf (.doneDeselect (smp 0b11110#5 true 0 0)) = false := by decide

theorem test_wf_refuses_doneWait :
    Instr.wf (.doneWait (smp 0b11111#5 false 0 0)) = false := by decide

/-! Decoding: the words written out from the encodings of 30_encoding.md R61, R67 and 41_chip_select_decoder.md R90. -/

theorem test_decode_select_codes :
    decode .idle (.ce5 0b00000#5) = .ok .decode00000None ∧
    decode .idle (.ce5 0b00001#5) = .ok .decode00001None ∧
    decode .idle (.ce5 0b00010#5) = .ok .decode00010None ∧
    decode .idle (.ce5 0b00011#5) = .ok .decode00011None ∧
    decode .idle (.ce5 0b00100#5) = .ok .decode00100None ∧
    decode .idle (.ce5 0b00101#5) = .ok .decode00101None ∧
    decode .idle (.ce5 0b00110#5) = .ok .decode00110None ∧
    decode .idle (.ce5 0b00111#5) = .ok .decode00111None ∧
    decode .idle (.ce5 0b01000#5) = .ok .decode01000None ∧
    decode .idle (.ce5 0b01001#5) = .ok .decode01001None ∧
    decode .idle (.ce5 0b01010#5) = .ok .decode01010None ∧
    decode .idle (.ce5 0b01011#5) = .ok .decode01011None ∧
    decode .idle (.ce5 0b01100#5) = .ok .decode01100None ∧
    decode .idle (.ce5 0b01101#5) = .ok .decode01101None ∧
    decode .idle (.ce5 0b01110#5) = .ok .decode01110None ∧
    decode .idle (.ce5 0b01111#5) = .ok .decode01111Bank4 ∧
    decode .idle (.ce5 0b10000#5) = .ok .decode10000None ∧
    decode .idle (.ce5 0b10001#5) = .ok .decode10001None ∧
    decode .idle (.ce5 0b10010#5) = .ok .decode10010None ∧
    decode .idle (.ce5 0b10011#5) = .ok .decode10011None ∧
    decode .idle (.ce5 0b10100#5) = .ok .decode10100None ∧
    decode .idle (.ce5 0b10101#5) = .ok .decode10101None ∧
    decode .idle (.ce5 0b10110#5) = .ok .decode10110None ∧
    decode .idle (.ce5 0b10111#5) = .ok .decode10111Bank3 ∧
    decode .idle (.ce5 0b11000#5) = .ok .decode11000None ∧
    decode .idle (.ce5 0b11001#5) = .ok .decode11001None ∧
    decode .idle (.ce5 0b11010#5) = .ok .decode11010None ∧
    decode .idle (.ce5 0b11011#5) = .ok .decode11011Bank2 ∧
    decode .idle (.ce5 0b11100#5) = .ok .decode11100None ∧
    decode .idle (.ce5 0b11101#5) = .ok .decode11101Bank1 ∧
    decode .idle (.ce5 0b11110#5) = .ok .decode11110Bank0 ∧
    decode .idle (.ce5 0b11111#5) = .ok .decode11111None := by
  refine ⟨rfl, rfl, rfl, rfl, rfl, rfl, rfl, rfl, rfl, rfl, rfl, rfl, rfl, rfl, rfl, rfl, rfl, rfl, rfl, rfl, rfl, rfl, rfl, rfl, rfl, rfl, rfl, rfl, rfl, rfl, rfl, rfl⟩

theorem test_decode_idleDeselected :
    decode .idle (.sample20 0b1001_1_11111_1010100101#20) = .ok (.idleDeselected (smp 0b11111#5 true 0x2A5#10 0x9#4)) := by decide

theorem test_decode_enterReadB0 :
    decode .idle (.sample20 0b0101_1_11110_1000000001#20) = .ok (.enterReadB0 (smp 0b11110#5 true 0x201#10 0x5#4)) := by decide

theorem test_decode_enterReadB1 :
    decode .idle (.sample20 0b0101_1_11101_1000000010#20) = .ok (.enterReadB1 (smp 0b11101#5 true 0x202#10 0x5#4)) := by decide

theorem test_decode_enterReadB2 :
    decode .idle (.sample20 0b0101_1_11011_1000000011#20) = .ok (.enterReadB2 (smp 0b11011#5 true 0x203#10 0x5#4)) := by decide

theorem test_decode_enterReadB3 :
    decode .idle (.sample20 0b0101_1_10111_1000000100#20) = .ok (.enterReadB3 (smp 0b10111#5 true 0x204#10 0x5#4)) := by decide

theorem test_decode_enterReadB4 :
    decode .idle (.sample20 0b0101_1_01111_1000000101#20) = .ok (.enterReadB4 (smp 0b01111#5 true 0x205#10 0x5#4)) := by decide

theorem test_decode_enterWriteB0 :
    decode .idle (.sample20 0b1010_0_11110_0100000001#20) = .ok (.enterWriteB0 (smp 0b11110#5 false 0x101#10 0xA#4)) := by decide

theorem test_decode_enterWriteB1 :
    decode .idle (.sample20 0b1010_0_11101_0100000010#20) = .ok (.enterWriteB1 (smp 0b11101#5 false 0x102#10 0xA#4)) := by decide

theorem test_decode_enterWriteB2 :
    decode .idle (.sample20 0b1010_0_11011_0100000011#20) = .ok (.enterWriteB2 (smp 0b11011#5 false 0x103#10 0xA#4)) := by decide

theorem test_decode_enterWriteB3 :
    decode .idle (.sample20 0b1010_0_10111_0100000100#20) = .ok (.enterWriteB3 (smp 0b10111#5 false 0x104#10 0xA#4)) := by decide

theorem test_decode_enterWriteB4 :
    decode .idle (.sample20 0b1010_0_01111_0100000101#20) = .ok (.enterWriteB4 (smp 0b01111#5 false 0x105#10 0xA#4)) := by decide

theorem test_decode_idleInvalid :
    decode .idle (.sample20 0b0001_0_11100_1111111111#20) = .ok (.idleInvalid (smp 0b11100#5 false 0x3FF#10 0x1#4)) := by decide

theorem test_decode_readDeselect :
    decode .selRead (.sample20 0b1000_0_11111_0000010001#20) = .ok (.readDeselect (smp 0b11111#5 false 0x011#10 0x8#4)) := by decide

theorem test_decode_readToWrite :
    decode .selRead (.sample20 0b0011_0_11011_0000010010#20) = .ok (.readToWrite (smp 0b11011#5 false 0x012#10 0x3#4)) := by decide

theorem test_decode_serveRead :
    decode .selRead (.sample20 0b0100_1_11100_0000010001#20) = .ok (.serveRead (smp 0b11100#5 true 0x011#10 0x4#4)) := by decide

theorem test_decode_writeDeselect :
    decode .selWrite (.sample20 0b0111_1_11111_0100100011#20) = .ok (.writeDeselect (smp 0b11111#5 true 0x123#10 0x7#4)) := by decide

theorem test_decode_writeHold :
    decode .selWrite (.sample20 0b0001_0_01111_1000000000#20) = .ok (.writeHold (smp 0b01111#5 false 0x200#10 0x1#4)) := by decide

theorem test_decode_writeCommit :
    decode .selWrite (.sample20 0b0110_1_00000_0100100100#20) = .ok (.writeCommit (smp 0b00000#5 true 0x124#10 0x6#4)) := by decide

theorem test_decode_doneDeselect :
    decode .selWriteDone (.sample20 0b0110_1_11111_0100100100#20) = .ok (.doneDeselect (smp 0b11111#5 true 0x124#10 0x6#4)) := by decide

theorem test_decode_doneWait :
    decode .selWriteDone (.sample20 0b0011_1_01111_0100100101#20) = .ok (.doneWait (smp 0b01111#5 true 0x125#10 0x3#4)) := by decide

/-- X1 and V20 to V27: the two rows of ReadSettle, which no word selects. -/
theorem test_decode_readSettle : decodeReadSettle 3 = .settleCount ∧ decodeReadSettle 0 = .settleRelease := by decide

/-- A word wider than its format, or with no bits, is refused by name; a sample in ReadSettle too. -/
theorem test_decode_refuses :
    busWordOfBits 8 32 = .error .widerThanSelectCode ∧ busWordOfBits 24 0x100000 = .error .widerThanSample20 ∧
    busWordOfBits 0 0 = .error .noWord ∧ decode .readSettle (.sample20 0x0FC00#20) = .error .noSampleInReadSettle := by
  refine ⟨rfl, rfl, rfl, rfl⟩

/-- V6 to V8: SAMPLE20 words of samples. -/
theorem test_pack :
    (smp 0b11101#5 true 0x3FF 0x5).pack = 0x5F7FF#20 ∧ (smp 0b11111#5 true 0 0).pack = 0x0FC00#20 ∧
    (smp 0b00000#5 false 0 0).pack = 0x00000#20 := by decide

/-- V9: the fields of a SAMPLE20 word. -/
theorem test_unpack : Sample.unpack 0xFFFFF#20 = smp 0b11111#5 true 0x3FF 0xF := by decide

/-- V1 to V5: the raw address is masked to its low ten bits. -/
theorem test_maskAddr :
    maskAddr 0x7FF = 0x3FF#10 ∧ maskAddr 0x400 = 0x000#10 ∧ maskAddr 0x3FF = 0x3FF#10 ∧ maskAddr 0 = 0#10 ∧
    maskAddr 0xFFFF = 0x3FF#10 := by decide

/-- X1, X2, V20 to V27: the Decoder. -/
theorem test_selectBank :
    selectBank 0b11110#5 = some 0 ∧ selectBank 0b11101#5 = some 1 ∧ selectBank 0b11011#5 = some 2 ∧
    selectBank 0b10111#5 = some 3 ∧ selectBank 0b01111#5 = some 4 ∧ selectBank 0b11111#5 = none ∧
    selectBank 0b00000#5 = none ∧ selectBank 0b11100#5 = none ∧ selectBank 0b01110#5 = none ∧
    selectBank 0b10000#5 = none ∧ selectBank 0b11010#5 = none := by decide

/-- The valid code of each bank (30_encoding.md R64). -/
theorem test_bankCode :
    bankCode 0 = 0b11110#5 ∧ bankCode 1 = 0b11101#5 ∧ bankCode 2 = 0b11011#5 ∧ bankCode 3 = 0b10111#5 ∧
    bankCode 4 = 0b01111#5 := by decide

/-! Steps of the spec's vectors. A cell that a vector gives is listed in the Store. -/

/-- A state from what the vectors of 95_test_vectors.md section 2.4 give: mode, bank, settle, direction, latch, Store,
inputs. -/
def mk (m : Mode) (b : Option Bank) (n : Nat) (d : Dir) (o : Nibble) (mem : Memory) (agenda : List Input) : State :=
  ⟨m, b, n, d, o, mem, some ⟨[], []⟩, agenda, 0, 0, .nothing⟩

/-- What the vectors show after a step. -/
structure Shown where
  mode : Mode
  bank : Option Bank
  settle : Nat
  lines : Option Nibble
  events : Option (List Event)
deriving DecidableEq, Repr

/-- What the vectors show of a step's answer. -/
def shown : Result → Option Shown
  | .next t => some ⟨t.mode, t.bank, t.settle, lines t, t.observer.map Observer.events⟩
  | .fault _ => none
  | .refused _ => none

/-- One script line, as pin levels. -/
def S (ce : SelectCode) (we : Bool) (a : Nat) (d : Nibble) : List Input := [.poll ⟨a, ce, we, d⟩]

theorem test_v40_idleDeselected :
    step (mk .idle none 0 .input 0 [] (S 0b11111#5 true 0 0)) = .next (mk .idle none 0 .input 0 [] []) := rfl

theorem test_v42_idleInvalid :
    step (mk .idle none 0 .input 0 [] (S 0b11100#5 false 0 0)) = .next (mk .idle none 0 .input 0 [] []) := rfl

theorem test_v43_enterRead :
    shown (step (mk .idle none 0 .input 0 [(0x810, 0x9)] (S 0b11011#5 true 0x010 0))) =
      some ⟨.selRead, some 2, 0, some 0x9, some [.select 2 .read, .read 2 0x010 0x9]⟩ := by decide

/-- X7, V64: the raw address 0x7FF reads the cell 0x3FF. -/
theorem test_v64_enterRead_masked :
    shown (step (mk .idle none 0 .input 0 [(0x7FF, 0x5)] (S 0b11101#5 true 0x7FF 0))) =
      some ⟨.selRead, some 1, 0, some 0x5, some [.select 1 .read, .read 1 0x3FF 0x5]⟩ := by decide

theorem test_v44_enterWrite :
    shown (step (mk .idle none 0 .input 0 [] (S 0b01111#5 false 0x123 0xC))) =
      some ⟨.selWrite, some 4, 0, none, some [.select 4 .write]⟩ := by decide

/-- V47: bank 0's code still serves bank 2. -/
theorem test_v47_serveRead_latched :
    shown (step (mk .selRead (some 2) 0 .output 0x4 [(0x011, 0x8), (0x811, 0x4)] (S 0b11110#5 true 0x011 0))) =
      some ⟨.selRead, some 2, 0, some 0x4, some [.read 2 0x011 0x4]⟩ := by decide

theorem test_v48_readToWrite :
    step (mk .selRead (some 2) 0 .output 0x4 [] (S 0b11011#5 false 0x011 0)) =
      .next (mk .selWrite (some 2) 0 .input 0x4 [] []) := rfl

/-- V50: deselection beats the strobe; the settle count is loaded, the lines stay driven. -/
theorem test_v50_readDeselect : ∃ t, step (mk .selRead (some 2) 0 .output 0x4 [] (S 0b11111#5 false 0x011 0)) = .next t ∧
    t.mode = .readSettle ∧ t.bank = none ∧ t.settle = Config.settlePolls ∧ lines t = some 0x4 :=
  ⟨_, rfl, rfl, rfl, rfl, rfl⟩

/-- V51: no sample is taken. -/
theorem test_v51_settleCount :
    step (mk .readSettle none 2 .output 0x4 [] (S 0b11110#5 true 0 0)) =
      .next (mk .readSettle none 1 .output 0x4 [] (S 0b11110#5 true 0 0)) := rfl

theorem test_v52_settleRelease :
    step (mk .readSettle none 0 .output 0x4 [] (S 0b11110#5 true 0 0)) =
      .next (mk .idle none 0 .input 0x4 [] (S 0b11110#5 true 0 0)) := rfl

theorem test_v54_writeHold :
    step (mk .selWrite (some 4) 0 .input 0 [] (S 0b01111#5 false 0x200 0x1)) =
      .next (mk .selWrite (some 4) 0 .input 0 [] []) := rfl

/-- V56: bank 0's code still commits to bank 4, and bank 0 keeps its cell. -/
theorem test_v56_writeCommit_latched :
    ∃ t, step (mk .selWrite (some 4) 0 .input 0 [(0x124, 0x8)] (S 0b11110#5 true 0x124 0x6)) = .next t ∧
      t.mode = .selWriteDone ∧ t.bank = some 4 ∧ lines t = none ∧
      t.observer = some ⟨[.write 4 0x124 0x6], []⟩ ∧ memRead 4 0x124 t = 0x6 ∧ memRead 0 0x124 t = 0x8 :=
  ⟨_, rfl, rfl, rfl, rfl, rfl, (readCell_writeCell 4 4 0x124 0x124 0x6 _).trans rfl,
    (readCell_writeCell 4 0 0x124 0x124 0x6 _).trans rfl⟩

/-- V58: the strobe is still low, so nothing is committed whatever COMMIT_ON_TIE is. -/
theorem test_v58_writeDeselect :
    ∃ t, step (mk .selWrite (some 4) 0 .input 0 [] (S 0b11111#5 false 0x123 0x7)) = .next t ∧
      t = { mk .idle none 0 .input 0 [] [] with observer := some ⟨[.deselect 4], []⟩ } := by
  refine ⟨_, rfl, ?_⟩
  simp [leaveWrite_eq, commitsOnTie, mk, heard, latchedBank, passSample, busSample, S, Pins.toSample, Sample.unpack,
    Sample.pack, maskAddr]

/-- V59 and V60: the tie commits exactly under COMMIT_ON_TIE. -/
theorem test_v59_v60_writeDeselect_tie :
    ∃ t, step (mk .selWrite (some 4) 0 .input 0 [(0x1123, 0x2)] (S 0b11111#5 true 0x123 0x7)) = .next t ∧
      t.mode = .idle ∧ t.bank = none ∧ memRead 4 0x123 t = if Config.commitOnTie then 0x7 else 0x2 := by
  refine ⟨_, rfl, rfl, rfl, ?_⟩
  show memRead 4 0x123 (leaveWrite (if Config.commitOnTie && true then _ else _)) = _
  cases Config.commitOnTie
  · rfl
  · exact (readCell_writeCell 4 4 0x123 0x123 0x7 _).trans rfl

/-- V62: no second commit, no drive. -/
theorem test_v62_doneWait :
    step (mk .selWriteDone (some 4) 0 .input 0 [] (S 0b01111#5 true 0x125 0x3)) =
      .next (mk .selWriteDone (some 4) 0 .input 0 [] []) := rfl

theorem test_v63_doneDeselect :
    shown (step (mk .selWriteDone (some 4) 0 .input 0 [] (S 0b11111#5 true 0x124 0x6))) =
      some ⟨.idle, none, 0, none, some [.deselect 4]⟩ := by decide

/-- The example of 40_bus_port.md R80. -/
theorem test_sample :
    ∃ t, exec .sample (mk .idle none 0 .input 0 [] (S 0b11101#5 true 0x7FF 0x5)) = .next t ∧
      t.reply = .sample (smp 0b11101#5 true 0x3FF 0x5) ∧ t.agenda = [] := ⟨_, rfl, rfl, rfl⟩

/-- V11: SetDir(Output) shows the latch. -/
theorem test_v11_setDir :
    shown (exec (.setDir .output) (mk .idle none 0 .input 0x3 [] [])) = some ⟨.idle, none, 0, some 0x3, some []⟩ := by decide

/-- V12, V13: Drive in Output and in Input. -/
theorem test_v12_v13_drive :
    shown (exec (.drive 0xA) (mk .selRead none 0 .output 0x3 [] [])) = some ⟨.selRead, none, 0, some 0xA, some []⟩ ∧
    shown (exec (.drive 0xA) (mk .idle none 0 .input 0x3 [] [])) = some ⟨.idle, none, 0, none, some []⟩ := by decide

/-- V30: a read of a listed cell. -/
theorem test_v30_memRead : memRead 1 0x3FF (mk .idle none 0 .input 0 [(0x7FF, 0x5)] []) = 0x5 := by decide

/-- V31, V33: a write changes one cell and is read back; the last cell of the last bank. -/
theorem test_v31_memWrite :
    ∃ t, exec (.memWrite 1 0x3FF 0x5) (mk .idle none 0 .input 0 [(0x3FF, 0xA)] []) = .next t ∧
      memRead 1 0x3FF t = 0x5 ∧ memRead 0 0x3FF t = 0xA :=
  ⟨_, rfl, (readCell_writeCell 1 1 0x3FF 0x3FF 0x5 _).trans rfl, (readCell_writeCell 1 0 0x3FF 0x3FF 0x5 _).trans rfl⟩

theorem test_cellKey_last : cellKey 4 0x3FF = 5119 ∧ cellKey 0 0 = 0 ∧ cellKey 1 0 = 1024 := by decide

/-- The example of 44_observer_interface.md R140, and a build without an Observer. -/
theorem test_emit :
    shown (exec (.emit (.select 4 .write)) (mk .idle none 0 .input 0 [] [])) =
      some ⟨.idle, none, 0, none, some [.select 4 .write]⟩ ∧
    shown (exec (.emit (.select 4 .write)) { mk .idle none 0 .input 0 [] [] with observer := none }) =
      some ⟨.idle, none, 0, none, none⟩ := by decide

/-- Two rows of the decode table hand back their entry (41_chip_select_decoder.md R90). -/
theorem test_decode_rows :
    exec .decode01111Bank4 (mk .idle none 0 .input 0 [] []) =
      .next { mk .idle none 0 .input 0 [] [] with reply := .bank (some 4) } ∧
    exec .decode00000None (mk .idle none 0 .input 0 [] []) =
      .next { mk .idle none 0 .input 0 [] [] with reply := .bank none } := ⟨rfl, rfl⟩

/-- A word placed after reset runs in the next step: the decode row of 11011, and ENTER_WRITE_B4 of 0x43C05. -/
theorem test_withFetchWord :
    (∃ t, step (State.reset.withFetchWord 8 0b11011) = .next t ∧ t.reply = .bank (some 2)) ∧
    (∃ t, step (State.reset.withFetchWord 24 0x43C05) = .next t ∧ t.mode = .selWrite ∧ t.bank = some 4) ∧
    decodeTableWord 8 0b11011 = some .decode11011Bank2 ∧
    decodeTableWord 24 0x43C05 = some (.enterWriteB4 (smp 0b01111#5 false 0x005 0x4)) :=
  ⟨⟨_, rfl, rfl⟩, ⟨_, rfl, rfl, rfl⟩, rfl, by decide⟩

/-- The step from reset with nothing placed takes an unconstrained sample and completes. -/
theorem test_step_from_reset : (shown (step State.reset)).isSome = true := by
  unfold step turn enginePoll
  simp only [reset_agenda, reset_mode, sampled]
  generalize decodeIdle _ = i
  cases i <;> rfl

/-! Witnesses: for each statement with hypotheses, a state and operands that meet all of them; where a statement has several
clauses, one for each. -/

theorem witness_SampleReadsThePinsAndMasksTheAddress :
    ∃ (s : State) (pins : Pins) (rest : List Input), s.agenda = .poll pins :: rest :=
  ⟨mk .idle none 0 .input 0 [] (S 0b11101#5 true 0x7FF 0x5), _, _, rfl⟩

theorem witness_UnlistedSampleIsAnyLevels :
    ∃ s : State, ∀ (pins : Pins) (rest : List Input), s.agenda ≠ .poll pins :: rest :=
  ⟨mk .idle none 0 .input 0 [] [.lookup 0], fun _ _ h => by cases h⟩

theorem witness_SetDir_and_Drive_same :
    (∃ s : State, s.dir = .output) ∧ ∃ s : State, s.out = 0xF :=
  ⟨⟨mk .selRead none 0 .output 0 [] [], rfl⟩, mk .selRead none 0 .output 0xF [] [], rfl⟩

theorem witness_LinesAreZInInputAndTheLatchInOutput :
    (∃ s : State, s.dir = .input) ∧ ∃ s : State, s.dir = .output :=
  ⟨⟨mk .idle none 0 .input 0 [] [], rfl⟩, mk .selRead none 0 .output 0 [] [], rfl⟩

/-- A cell that is not listed, in a Store that lists its two neighbours. -/
theorem witness_MemRead_unlisted :
    ∃ (b : Bank) (a : Addr) (s : State), Memory.lookup (cellKey b a) s.mem = none ∧ s.mem ≠ [] :=
  ⟨1, 0x001, mk .idle none 0 .input 0 [(0x400, 0x5), (0x402, 0x6)] [], by decide, by decide⟩

theorem witness_WritingTheHeldValueChangesNothing :
    ∃ (b : Bank) (a : Addr) (v : Nibble) (s : State), Memory.wf s.mem = true ∧ memRead b a s = v :=
  ⟨4, 0x3FF, 0xF, memWrite 4 0x3FF 0xF (mk .idle none 0 .input 0 [] []), writeCell_wf 4 0x3FF 0xF rfl,
    (readCell_writeCell 4 4 0x3FF 0x3FF 0xF _).trans rfl⟩

/-- Two canonical Stores that list a cell. -/
theorem witness_CanonicalStoresWithEqualCellsAreEqual :
    ∃ m m' : Memory, Memory.wf m = true ∧ Memory.wf m' = true ∧ m ≠ [] ∧
      ∀ (b : Bank) (a : Addr), Memory.readCell b a m = Memory.readCell b a m' := by
  refine ⟨Memory.writeCell 4 0x3FF (initialCell 4 0x3FF + 1) [], _, writeCell_wf _ _ _ rfl, writeCell_wf _ _ _ rfl, ?_,
    fun _ _ => rfl⟩
  simp [Memory.writeCell, Memory.insert]

theorem witness_EmitReachesAPresentObserverOnly :
    (∃ s : State, s.observer = none) ∧ ∃ (s : State) (o : Observer), s.observer = some o :=
  ⟨⟨{ mk .idle none 0 .input 0 [] [] with observer := none }, rfl⟩, mk .idle none 0 .input 0 [] [], _, rfl⟩

/-- Both branches: the deselect code and an invalid code. -/
theorem witness_IdleWithoutABankChangesNothing :
    (∃ p : Sample, selectBank p.ce = none ∧ p.ce = 0b11111#5) ∧ ∃ p : Sample, selectBank p.ce = none ∧ p.ce ≠ 0b11111#5 :=
  ⟨⟨smp 0b11111#5 false 0x3FF 0xF, by decide⟩, smp 0b00000#5 false 0 0, by decide⟩

theorem witness_EnterRead :
    ∀ ce ∈ [0b11110#5, 0b11101#5, 0b11011#5, 0b10111#5, 0b01111#5], ∃ p : Sample, p.we = true ∧ p.ce = ce :=
  fun ce _ => ⟨smp ce true 0x3FF 0xF, rfl, rfl⟩

theorem witness_EnterWrite :
    ∀ ce ∈ [0b11110#5, 0b11101#5, 0b11011#5, 0b10111#5, 0b01111#5], ∃ p : Sample, p.we = false ∧ p.ce = ce :=
  fun ce _ => ⟨smp ce false 0x3FF 0xF, rfl, rfl⟩

/-- SERVE_READ, and with the same operands WRITE_COMMIT. -/
theorem witness_ServeRead_and_WriteCommit :
    ∃ (p : Sample) (s : State) (b : Bank), p.ce ≠ 0b11111#5 ∧ p.we = true ∧ s.bank = some b :=
  ⟨smp 0b00000#5 true 0x3FF 0xF, mk .selRead (some 4) 0 .output 0 [] [], 4, by decide, rfl, rfl⟩

/-- READ_TO_WRITE, WRITE_HOLD, and with the same sample DONE_WAIT. -/
theorem witness_ReadToWrite_WriteHold_DoneWait : ∃ p : Sample, p.ce ≠ 0b11111#5 ∧ p.we = false :=
  ⟨smp 0b11110#5 false 0x3FF 0xF, by decide, rfl⟩

/-- READ_DESELECT, DONE_DESELECT, and both clauses of WRITE_DESELECT. -/
theorem witness_Deselects :
    (∃ (p : Sample) (s : State) (b : Bank), p.ce = 0b11111#5 ∧ s.bank = some b ∧ p.we = false) ∧
    ∃ (p : Sample) (s : State) (b : Bank), p.ce = 0b11111#5 ∧ s.bank = some b ∧ p.we = true :=
  ⟨⟨smp 0b11111#5 false 0 0, mk .selRead (some 0) 0 .output 0 [] [], 0, rfl, rfl, rfl⟩,
    smp 0b11111#5 true 0 0, mk .selRead (some 0) 0 .output 0 [] [], 0, rfl, rfl, rfl⟩

theorem witness_SettleCount_SettleRelease :
    (∃ (s : State) (n : Nat), s.settle = n + 1) ∧ ∃ s : State, s.settle = 0 :=
  ⟨⟨mk .readSettle none 1 .output 0 [] [], 0, rfl⟩, mk .readSettle none 0 .output 0 [] [], rfl⟩

theorem witness_TableAgreesWithTheDispatcher : (∃ m : Mode, m ≠ .readSettle) ∧ ∃ m : Mode, m = .readSettle :=
  ⟨⟨.idle, by decide⟩, .readSettle, rfl⟩

/-- Two operations that meet all of the hypotheses of the exclusive half. -/
theorem witness_ExactlyOneRowMeetsASample :
    ∃ (m : Mode) (p : Sample) (i j : Instr), m ≠ .readSettle ∧ i.wf = true ∧ j.wf = true ∧
      i.sampleRow.map SampleRow.mode = some m ∧ j.sampleRow.map SampleRow.mode = some m ∧
      i.sample? = some p ∧ j.sample? = some p :=
  ⟨.selWrite, smp 0b00000#5 true 0 0, .writeCommit (smp 0b00000#5 true 0 0), .writeCommit (smp 0b00000#5 true 0 0),
    by decide⟩

theorem witness_DecodeOfEncodeIsTheInstruction :
    ∃ (i : Instr) (w : BusWord), i.wf = true ∧ encode i = .ok w :=
  ⟨.doneWait (smp 0b00000#5 false 0x3FF 0xF), .sample20 0xF03FF#20, by decide, rfl⟩

theorem witness_EncodeOfDecodeIsTheWord :
    (∃ m : Mode, m ≠ .readSettle) ∧
    ∃ (m : Mode) (w : BusWord) (i : Instr) (v : SampleWord), decode m w = .ok i ∧ w = .sample20 v :=
  ⟨⟨.selRead, by decide⟩, .selRead, .sample20 0xFFFFF#20, _, _, rfl, rfl⟩

/-- The four clauses of the step: a listed sample, an unlisted one, ReadSettle, a look-up. -/
theorem witness_StepRunsTheSelectedOperation :
    (∃ (s : State) (pins : Pins) (rest : List Input) (i : Instr), s.agenda = .poll pins :: rest ∧
      decode s.mode (.sample20 pins.toSample.pack) = .ok i) ∧
    (∃ (s : State) (i : Instr), s.agenda = [] ∧
      decode s.mode (.sample20 (freePins s.freeSamples).toSample.pack) = .ok i) ∧
    (∃ s : State, s.mode = .readSettle ∧ engineNext s = true) ∧
    ∃ (s : State) (ce : SelectCode) (rest : List Input) (i : Instr), s.agenda = .lookup ce :: rest ∧
      decode s.mode (.ce5 ce) = .ok i :=
  ⟨⟨mk .idle none 0 .input 0 [] (S 0b11110#5 true 0 0), _, _, _, rfl, rfl⟩,
    ⟨mk .selWriteDone none 0 .input 0 [] [], _, rfl, rfl⟩,
    ⟨mk .readSettle none 0 .output 0 [] [], rfl, rfl⟩,
    mk .readSettle none 0 .output 0 [] [.lookup 31], _, _, _, rfl, rfl⟩

theorem witness_PlacedWordRunsInTheNextStep :
    (∃ i, decodeTableWord 8 31 = some i) ∧ ∃ i, decodeTableWord 24 0xFFFFF = some i := ⟨⟨_, rfl⟩, _, rfl⟩

theorem witness_ObserverRead_and_Restart :
    (∃ (s : State) (b : Bank) (a : Addr) (rest : List Input), s.agenda = .observe b a :: rest) ∧
    ∃ (s : State) (rest : List Input), s.agenda = .restart :: rest :=
  ⟨⟨mk .idle none 0 .input 0 [] [.observe 4 0x3FF], _, _, _, rfl⟩, mk .idle none 0 .input 0 [] [.restart], _, rfl⟩

/-- A coherent state in each mode, each with a next state. -/
theorem witness_EveryStepKeepsTheModeInvariants :
    ∀ m : Mode, ∃ s t : State, s.mode = m ∧ Coherent s ∧ step s = .next t := by
  intro m
  cases m
  · exact ⟨mk .idle none 0 .input 0 [] (S 0b11110#5 true 0 0), _, rfl,
      ⟨by decide, by decide, by decide, by decide⟩, rfl⟩
  · exact ⟨mk .selRead (some 4) 0 .output 0 [] (S 0b11111#5 true 0 0), _, rfl,
      ⟨by decide, fun _ => ⟨rfl, 4, rfl⟩, by decide, by decide⟩, rfl⟩
  · exact ⟨mk .selWrite (some 4) 0 .input 0 [] (S 0b11110#5 true 0 0), _, rfl,
      ⟨by decide, by decide, fun _ => ⟨rfl, 4, rfl⟩, by decide⟩, rfl⟩
  · exact ⟨mk .selWriteDone (some 4) 0 .input 0 [] (S 0b11111#5 true 0 0), _, rfl,
      ⟨by decide, by decide, fun _ => ⟨rfl, 4, rfl⟩, by decide⟩, rfl⟩
  · exact ⟨mk .readSettle none 0 .output 0 [] [], _, rfl,
      ⟨by decide, by decide, by decide, by decide⟩, rfl⟩

/-- The canonical form, the settle bound and the fitting agenda, with a next state. -/
theorem witness_EveryStepKeeps_store_settle_agenda :
    ∃ s t : State, Memory.wf s.mem = true ∧ SettleBounded s ∧ AgendaFits s ∧ step s = .next t :=
  ⟨mk .selWrite (some 4) 0 .input 0 [] [.lookup 0], _, rfl, ⟨Nat.zero_le _, fun _ => rfl⟩,
    fun p h => by simp [mk] at h, rfl⟩

theorem witness_LinesAreDrivenExactlyInReadAndSettle :
    ∃ s : State, Coherent s ∧ (s.mode = .selRead ∨ s.mode = .readSettle) :=
  ⟨mk .readSettle none 0 .output 0 [] [], ⟨by decide, by decide, by decide, by decide⟩, .inr rfl⟩

theorem witness_OnlyTheDeselectCodeLeavesASelectedMode :
    (∃ (ps : List Pins) (s : State) (rest : List Input), (∀ p ∈ ps, p.ce ≠ 0b11111#5) ∧ selectedMode s.mode = true ∧
      s.agenda = ps.map Input.poll ++ rest ∧ ps ≠ []) ∧
    ∃ (s : State) (p : Pins) (rest : List Input), p.ce = 0b11111#5 ∧ selectedMode s.mode = true ∧
      s.agenda = .poll p :: rest :=
  ⟨⟨[⟨0, 0b00000#5, true, 0⟩], mk .selRead (some 4) 0 .output 0 [] (S 0b00000#5 true 0 0), [], by decide, rfl, rfl,
      by decide⟩,
    mk .selWriteDone (some 4) 0 .input 0 [] (S 0b11111#5 true 0 0), _, _, rfl, rfl, rfl⟩

/-- Two polls of one cell address with other codes, data and higher address bits. -/
theorem witness_RepeatedReadsDriveTheSameNibble :
    ∃ (ps : List Pins) (s : State) (b : Bank) (a : Addr) (rest : List Input), ps ≠ [] ∧
      (∀ p ∈ ps, maskAddr p.rawAddr = a ∧ p.we = true ∧ p.ce ≠ 0b11111#5) ∧
      s.mode = .selRead ∧ s.bank = some b ∧ s.dir = .output ∧ s.agenda = ps.map Input.poll ++ rest ∧ ps.length = 2 :=
  ⟨[⟨0x7FF, 0b00000#5, true, 0⟩, ⟨0x3FF, 0b11110#5, true, 0xF⟩],
    mk .selRead (some 4) 0 .output 0 [] (S 0b00000#5 true 0x7FF 0 ++ S 0b11110#5 true 0x3FF 0xF), 4, 0x3FF, [],
    by decide, by decide, rfl, rfl, rfl, rfl, rfl⟩

/-- All hypotheses of the settle window, with k at its greatest value. -/
theorem witness_ReadDeselectionHoldsTheLinesForTheSettleWindow :
    ∃ (s : State) (p : Pins) (rest : List Input) (b : Bank) (k : Nat), s.mode = .selRead ∧ s.bank = some b ∧
      s.dir = .output ∧ p.ce = 0b11111#5 ∧ s.agenda = .poll p :: rest ∧ engineNext { s with agenda := rest } = true ∧
      k ≤ Config.settlePolls :=
  ⟨mk .selRead (some 0) 0 .output 0x4 [] (S 0b11111#5 false 0 0), _, _, 0, Config.settlePolls, rfl, rfl, rfl, rfl, rfl, rfl,
    Nat.le_refl _⟩

theorem witness_WriteTransactionChangesOneCell :
    ∃ (s : State) (b : Bank) (a : Nat) (v : Nibble) (rest : List Input), s.mode = .idle ∧
      s.agenda = writeScript b a v ++ rest :=
  ⟨mk .idle none 0 .input 0 [] (writeScript 4 0x7FF 0xF), 4, 0x7FF, 0xF, [], rfl, rfl⟩

/-- An Observer read; then bank 2 selected for a write, a commit, a second strobe pulse under bank 1's code, a deselection. -/
def writeWithPulse : List Input :=
  [.observe 1 0x3FF] ++ S 0b11011#5 false 0x7FF 9 ++ S 0b11011#5 true 0x7FF 9 ++ S 0b11101#5 false 0x7FF 0xA ++
    S 0b11101#5 true 0x7FF 0xA ++ S 0b11111#5 true 0x7FF 0xA

def pulseStart : State := mk .idle none 0 .input 0 [] (writeScript 1 0x7FF 5 ++ writeWithPulse ++ readScript 1 0x3FF)

/-- The state a run that does not stop ends in. -/
def reached : Result → State
  | .next t => t
  | .fault _ => State.reset
  | .refused _ => State.reset

/-- Both clauses of the read after the write. In the second come between: an Observer read, a commit to the same address
of bank 2, and within that selection a strobe pulse under bank 1's code that commits nothing. -/
theorem witness_WriteThenReadReturnsTheValue :
    (∃ (n : Nat) (s : State) (b : Bank) (a a' : Nat) (v : Nibble) (rest : List Input), s.mode = .idle ∧
      a % 1024 = a' % 1024 ∧ s.agenda = writeScript b a v ++ idleScript n ++ readScript b a' ++ rest) ∧
    ∃ (m : Nat) (s w u : State) (b : Bank) (a a' : Nat) (v : Nibble) (between rest : List Input),
      s.mode = .idle ∧ a % 1024 = a' % 1024 ∧ (∀ i ∈ between, i ≠ .restart) ∧
      s.agenda = writeScript b a v ++ between ++ readScript b a' ++ rest ∧
      runSteps 3 s = .next w ∧ (∀ c ∈ commitsOf m w, ¬(c.1 = b ∧ c.2.1 = maskAddr a)) ∧ commitsOf m w ≠ [] ∧
      runSteps m w = .next u ∧ u.mode = .idle ∧ u.agenda = readScript b a' ++ rest :=
  have only_bank_2 : ∀ l : List (Bank × Addr × Nibble), l = [(2, 0x3FF, 9)] →
      (∀ c ∈ l, ¬(c.1 = 1 ∧ c.2.1 = maskAddr 0x7FF)) ∧ l ≠ [] := by
    rintro _ rfl
    simp
  have commits : commitsOf 6 (reached (runSteps 3 pulseStart)) = [(2, 0x3FF, 9)] := rfl
  ⟨⟨1, mk .idle none 0 .input 0 [] (writeScript 1 0x7FF 5 ++ idleScript 1 ++ readScript 1 0x3FF), 1, 0x7FF, 0x3FF, 5, [],
      rfl, rfl, rfl⟩,
    6, pulseStart, reached (runSteps 3 pulseStart), reached (runSteps 9 pulseStart), 1, 0x7FF, 0x3FF, 5, writeWithPulse, [],
      rfl, rfl, by decide, rfl, rfl, (only_bank_2 _ commits).1, (only_bank_2 _ commits).2, rfl, rfl, rfl⟩

/-- A commit that changes the last cell, whatever its initial fill is. -/
theorem witness_OnlyACommitChangesACell :
    ∃ (s t : State) (b : Bank) (a : Addr), step s = .next t ∧ (∀ rest : List Input, s.agenda ≠ .restart :: rest) ∧
      memRead b a t ≠ memRead b a s := by
  refine ⟨mk .selWrite (some 4) 0 .input 0 [(0x13FF, 0x2)] (S 0b01111#5 true 0x3FF 0x7), _, 4, 0x3FF, rfl,
    ?_, ?_⟩
  · intro rest h
    simp [mk, S] at h
  · have h : (0x7 : Nibble) ≠ 0x2 := by decide
    exact fun e => h (((readCell_writeCell 4 4 0x3FF 0x3FF 0x7 _).trans rfl).symm.trans e)

theorem witness_EveryCellHoldsItsLastCommit :
    ∃ (n : Nat) (s t : State), (∀ i ∈ s.agenda, i ≠ .restart) ∧ runSteps n s = .next t ∧ n = 3 :=
  ⟨3, mk .idle none 0 .input 0 [] (writeScript 4 0x3FF 0xF), _, by decide, rfl, rfl⟩

theorem witness_StrobeNeverHighNeverCommits :
    ∃ (ps : List Pins) (n : Nat) (s : State) (rest : List Input), (∀ p ∈ ps, p.we = false) ∧ n ≤ ps.length ∧
      s.agenda = ps.map Input.poll ++ rest ∧ n = 1 :=
  ⟨[⟨0, 0b01111#5, false, 0xF⟩], 1, mk .selWrite (some 4) 0 .input 0 [] (S 0b01111#5 false 0 0xF), [], by decide,
    by decide, rfl, rfl⟩

theorem witness_OneCommitPerSelection :
    ∃ (ps : List Pins) (s : State) (rest : List Input), (∀ p ∈ ps, p.ce ≠ 0b11111#5) ∧ s.mode = .selWriteDone ∧
      s.agenda = ps.map Input.poll ++ rest ∧ ps ≠ [] :=
  ⟨[⟨0, 0b01111#5, true, 0xF⟩], mk .selWriteDone (some 4) 0 .input 0 [] (S 0b01111#5 true 0 0xF), [], by decide, rfl, rfl,
    by decide⟩

theorem witness_ObserverNeverInfluencesTheEngine :
    (∃ s : State, observerNext s = true) ∧ ∃ s : State, observerNext s = false :=
  ⟨⟨mk .selRead (some 0) 0 .output 0 [] [.observe 0 0], rfl⟩, mk .idle none 0 .input 0 [] [], rfl⟩

theorem witness_UndrivenLatchIsNeverSeen : ∃ s : State, s.dir = .input := ⟨mk .idle none 0 .input 0x6 [] [], rfl⟩

end Sys2Proof.Tests
end

section
/-! PROOFS. The memory's statements (20_memory.md): a write changes one cell only, and the polls of one address in a read
transaction show the cell without flicker. -/

namespace Sys2Proof.Machine

/-- Settles O10: the write meets the Store law `memRead_memWrite`, and `memWrite` is an update of the Store alone. -/
theorem memWriteChangesOneCellOnly : Obligations.MemWriteChangesOneCellOnly := by
  intro b a v s
  exact ⟨memWrite b a v s, rfl, fun b' a' => memRead_memWrite b b' a a' v s, rfl⟩

/-- The row of mode SelRead that a packed sample selects: the deselect test first, then the strobe test
(30_encoding.md R67; log 13). -/
theorem decodeSelRead_pack (p : Sample) :
    decodeSelRead p.pack =
      if p.ce = 0b11111#5 then .readDeselect p else if p.we = false then .readToWrite p else .serveRead p := by
  have deselect_accepts : p.ce.setWidth 20 <<< 10 = 0x07C00#20 ↔ p.ce = 0b11111#5 := by
    generalize p.ce = ce
    revert ce
    decide
  have strobe_accepts : (BitVec.ofBool p.we).setWidth 20 <<< 15 = 0x00000#20 ↔ p.we = false := by
    generalize p.we = we
    revert we
    decide
  simp [decodeSelRead, firstRow, Instr.sampleRow, SampleRow.accepts, pack_and_select, pack_and_strobe,
    deselect_accepts, strobe_accepts]

/-- A poll that samples listed pin levels in mode SelRead runs the row its sample selects (43_bus_engine.md R110). -/
theorem step_selRead_of_poll {s : State} {p : Pins} {rest : List Input} (hmode : s.mode = .selRead)
    (hagenda : s.agenda = .poll p :: rest) :
    step s = exec (decodeSelRead p.toSample.pack) (withAgenda rest s) := by
  have engine_moves : engineNext s = true := by simp [engineNext, hagenda]
  apply step_of_run
  rw [turn_of_engineNext engine_moves]
  simp [enginePoll, hmode, sampled, busSample_of_poll hagenda, passSample_of_poll hagenda]

/-- SERVE_READ drives the latched bank's cell and tells the Observer, and nothing else (43_bus_engine.md R114). -/
theorem exec_serveRead_eq (p : Sample) (s : State) :
    exec (.serveRead p) s = .next { s with
      out := servedCell p s
      observer := heard [.read (latchedBank s) p.addr (servedCell p s)] s.observer } := rfl

/-- One served poll of a read transaction with bank b latched (43_bus_engine.md R114). -/
theorem step_served_poll {s : State} {p : Pins} {rest : List Input} {b : Bank} (hmode : s.mode = .selRead)
    (hbank : s.bank = some b) (hagenda : s.agenda = .poll p :: rest) (hwe : p.we = true) (hce : p.ce ≠ 0b11111#5) :
    step s = .next { s with
      out := memRead b (maskAddr p.rawAddr) s
      observer := heard [.read b (maskAddr p.rawAddr) (memRead b (maskAddr p.rawAddr) s)] s.observer
      agenda := rest } := by
  have row : decodeSelRead p.toSample.pack = .serveRead p.toSample := by
    simp [decodeSelRead_pack, Pins.toSample, hwe, hce]
  have latched : latchedBank (withAgenda rest s) = b := latchedBank_of_some hbank
  rw [step_selRead_of_poll hmode hagenda, row, exec_serveRead_eq, servedCell, latched]
  rfl

/-- A read transaction on bank b over the Store m: what serving a poll keeps (43_bus_engine.md R114). -/
structure ServingRead (b : Bank) (m : Memory) (s : State) : Prop where
  mode : s.mode = .selRead
  bank : s.bank = some b
  dir : s.dir = .output
  mem : s.mem = m

/-- A served poll keeps the transaction and puts the addressed cell in the latch. -/
theorem ServingRead.step_poll {s : State} {b : Bank} {m : Memory} {p : Pins} {rest : List Input}
    (hs : ServingRead b m s) (hagenda : s.agenda = .poll p :: rest) (hwe : p.we = true) (hce : p.ce ≠ 0b11111#5) :
    ∃ t : State, step s = .next t ∧ ServingRead b m t ∧ t.agenda = rest ∧
      t.out = Memory.readCell b (maskAddr p.rawAddr) m := by
  obtain ⟨hmode, hbank, hdir, rfl⟩ := hs
  exact ⟨_, step_served_poll hmode hbank hagenda hwe hce, ⟨hmode, hbank, hdir, rfl⟩, rfl, rfl⟩

/-- Any number of served polls of the address a keep the transaction; the latch holds the cell (b, a) at the end if it
held it at the start or any poll was served. -/
theorem ServingRead.runSteps_polls {b : Bank} {m : Memory} {a : Addr} {rest : List Input} (ps : List Pins) {s : State}
    (hs : ServingRead b m s) (hagenda : s.agenda = ps.map Input.poll ++ rest)
    (hps : ∀ p ∈ ps, maskAddr p.rawAddr = a ∧ p.we = true ∧ p.ce ≠ 0b11111#5) :
    ∃ t : State, runSteps ps.length s = .next t ∧ ServingRead b m t ∧ t.agenda = rest ∧
      (ps ≠ [] ∨ s.out = Memory.readCell b a m → t.out = Memory.readCell b a m) := by
  induction ps generalizing s with
  | nil => exact ⟨s, rfl, hs, hagenda, fun h => h.resolve_left (· rfl)⟩
  | cons p ps ih =>
    obtain ⟨⟨haddr, hwe, hce⟩, hps⟩ := List.forall_mem_cons.1 hps
    obtain ⟨u, hstep, hu, huagenda, huout⟩ := hs.step_poll hagenda hwe hce
    obtain ⟨t, hrun, ht, htagenda, htout⟩ := ih hu huagenda hps
    exact ⟨t, (runSteps_succ hstep).trans hrun, ht, htagenda, fun _ => htout (.inr (haddr ▸ huout))⟩

/-- Settles O47: the first poll puts the cell in the latch, and every later one puts the same cell there again, since
serving a poll leaves the Store and the latched bank. -/
theorem repeatedReadsDriveTheSameNibble : Obligations.RepeatedReadsDriveTheSameNibble := by
  intro ps s b a rest hne hps hmode hbank hdir hagenda
  have hs : ServingRead b s.mem s := ⟨hmode, hbank, hdir, rfl⟩
  obtain ⟨t, hrun, ht, htagenda, htout⟩ := hs.runSteps_polls ps hagenda hps
  have hlines : lines t = some (memRead b a s) := by rw [lines_of_output ht.dir, htout (.inl hne), memRead]
  exact ⟨t, hrun, hlines, ht.mode, ht.bank, ht.dir, ht.mem, htagenda⟩

end Sys2Proof.Machine
end

section
/-! PROOFS. The Bus Port's statements (40_bus_port.md): the direction is written alone and for all four pins at once, and
it alone decides whether the latch is on the lines. -/

namespace Sys2Proof.Machine

/-- SET_DIR is the named update of the direction (40_bus_port.md R82). -/
theorem exec_setDir_eq (d : Dir) (s : State) : exec (.setDir d) s = .next (setDir d s) := rfl

/-- Corner case of R82: giving the pins the direction they have already changes nothing. -/
theorem setDir_eq_self_of_dir {d : Dir} {s : State} (h : s.dir = d) : setDir d s = s := by
  subst h
  rfl

/-- Settles O6: SET_DIR is `setDir`, an update of the direction alone, which is the identity on a state of that
direction. -/
theorem setDirWritesTheDirectionOnly : Obligations.SetDirWritesTheDirectionOnly := by
  intro d s
  refine ⟨exec_setDir_eq d s, fun hdir => ?_⟩
  rw [exec_setDir_eq, setDir_eq_self_of_dir hdir]

/-- Settles O8: one case for each direction; in Output the nibble on the lines is the latch itself, so it agrees with it
on every line. -/
theorem linesAreZInInputAndTheLatchInOutput : Obligations.LinesAreZInInputAndTheLatchInOutput := by
  intro s
  constructor
  · exact lines_of_input
  · intro hdir
    exact ⟨s.out, lines_of_output hdir, fun _ => rfl⟩

end Sys2Proof.Machine
end

section
/-! PROOFS. The Chip-Select Decoder's statement (41_chip_select_decoder.md): the codes with a bank are the five
`bankCode`s, and a look-up writes no state of the spec's. -/

namespace Sys2Proof.Machine

/-- The valid codes are those of the five banks (30_encoding.md R64). -/
theorem bankCode_mem_validCodes (b : Bank) :
    bankCode b ∈ [0b11110#5, 0b11101#5, 0b11011#5, 0b10111#5, 0b01111#5] := by
  revert b
  decide

/-- The Decoder gives a bank's own code that bank (41_chip_select_decoder.md R90). -/
theorem selectBank_bankCode (b : Bank) : selectBank (bankCode b) = some b := by
  revert b
  decide

/-- A code that is no bank's fails every test of the table (41_chip_select_decoder.md R90). -/
theorem selectBank_eq_none_of_ne_bankCode {ce : SelectCode} (h : ∀ b : Bank, ce ≠ bankCode b) :
    selectBank ce = none := by
  have not_bank0 : ce ≠ 0b11110#5 := h 0
  have not_bank1 : ce ≠ 0b11101#5 := h 1
  have not_bank2 : ce ≠ 0b11011#5 := h 2
  have not_bank3 : ce ≠ 0b10111#5 := h 3
  have not_bank4 : ce ≠ 0b01111#5 := h 4
  simp only [selectBank, not_bank0, not_bank1, not_bank2, not_bank3, not_bank4, if_false]

/-- A look-up of any code runs to the named update of the reply (41_chip_select_decoder.md R90; log 4). -/
theorem exec_decode_eq (ce : SelectCode) (s : State) :
    exec (.decode ce) s = .next (setReply (.bank (selectBank ce)) s) := rfl

/-- Settles O1: the five listed codes are the `bankCode`s of the banks 0 to 4, so a code off the list is no bank's; the
look-up is `setReply`, an update of the reply alone. -/
theorem decoderMapsTheFiveValidCodes : Obligations.DecoderMapsTheFiveValidCodes := by
  refine ⟨selectBank_bankCode 0, selectBank_bankCode 1, selectBank_bankCode 2, selectBank_bankCode 3,
    selectBank_bankCode 4, fun ce hce => ?_, exec_decode_eq⟩
  apply selectBank_eq_none_of_ne_bankCode
  rintro b rfl
  exact hce (bankCode_mem_validCodes b)

end Sys2Proof.Machine
end

section
/-! PROOFS. The Memory Store's statement (42_memory_store.md): apart from a restart, only a commit of the engine in mode
SelWrite writes the Store. -/

namespace Sys2Proof.Machine

/-- The three operations whose meaning calls MemWrite (42_memory_store.md R105). -/
def writesStore : Instr → Bool
  | .writeDeselect _ | .writeCommit _ | .memWrite _ _ _ => true
  | _ => false

/-- Every other operation runs to a state with the same Store. -/
theorem exec_mem_of_not_writesStore {i : Instr} {s t : State} (hi : writesStore i = false)
    (hexec : exec i s = .next t) : t.mem = s.mem := by
  cases i with
  | writeDeselect _ | writeCommit _ | memWrite _ _ _ => cases hi
  | sample => cases hexec; exact passSample_mem s
  | _ => cases hexec; rfl

/-- The row a word selects has any property that all the listed rows and the last one have. -/
theorem firstRow_of_forall {P : Instr → Prop} {w : SampleWord} {last : Sample → Instr} {rows : List (Sample → Instr)}
    (hlast : P (last (Sample.unpack w))) (hrows : ∀ row ∈ rows, P (row (Sample.unpack w))) :
    P (firstRow last rows w) := by
  induction rows with
  | nil => exact hlast
  | cons row rows ih =>
    obtain ⟨hrow, hrows⟩ := List.forall_mem_cons.1 hrows
    unfold firstRow
    split
    · split
      · exact hrow
      · exact ih hrows
    · exact ih hrows

theorem decodeIdle_not_writesStore (w : SampleWord) : writesStore (decodeIdle w) = false :=
  firstRow_of_forall (P := fun i => writesStore i = false) rfl (by simp [writesStore])

theorem decodeSelRead_not_writesStore (w : SampleWord) : writesStore (decodeSelRead w) = false :=
  firstRow_of_forall (P := fun i => writesStore i = false) rfl (by simp [writesStore])

theorem decodeSelWriteDone_not_writesStore (w : SampleWord) : writesStore (decodeSelWriteDone w) = false :=
  firstRow_of_forall (P := fun i => writesStore i = false) rfl (by simp [writesStore])

theorem decodeReadSettle_not_writesStore (n : Nat) : writesStore (decodeReadSettle n) = false := by
  unfold decodeReadSettle
  split <;> rfl

theorem decodeSelectCode_not_writesStore (ce : SelectCode) : writesStore (decodeSelectCode ce) = false := by
  revert ce
  decide

/-- A packed sample meets the deselect row's bits when its code is 11111 (30_encoding.md R67). -/
theorem accepts_deselect_pack (m : Mode) (p : Sample) :
    SampleRow.accepts ⟨m, 0x07C00#20, 0x07C00#20⟩ p.pack = true ↔ p.ce = 0b11111#5 := by
  simp only [SampleRow.accepts, pack_and_select, beq_iff_eq]
  generalize p.ce = ce
  revert ce
  decide

/-- A packed sample meets the strobe row's bits when its strobe is low (30_encoding.md R67). -/
theorem accepts_strobeLow_pack (m : Mode) (p : Sample) :
    SampleRow.accepts ⟨m, 0x00000#20, 0x08000#20⟩ p.pack = true ↔ p.we = false := by
  simp only [SampleRow.accepts, pack_and_strobe, beq_iff_eq]
  generalize p.we = we
  revert we
  decide

/-- The row of mode SelWrite that a packed sample selects: the deselect test first, then the strobe test
(30_encoding.md R67; log 13). -/
theorem decodeSelWrite_pack (p : Sample) :
    decodeSelWrite p.pack =
      if p.ce = 0b11111#5 then .writeDeselect p else if p.we = false then .writeHold p else .writeCommit p := by
  simp [decodeSelWrite, firstRow, Instr.sampleRow, accepts_deselect_pack, accepts_strobeLow_pack]

/-- Whether a sample taken in mode SelWrite commits: its strobe is high, and on the deselect code COMMIT_ON_TIE holds
(43_bus_engine.md R122, R124). -/
def commitsInSelWrite (p : Sample) : Bool := p.we && (p.ce != 0b11111#5 || Config.commitOnTie)

/-- What the row of a sample in mode SelWrite does to the Store (43_bus_engine.md R122 to R124). -/
theorem exec_decodeSelWrite_mem {p : Sample} {s t : State} (hexec : exec (decodeSelWrite p.pack) s = .next t) :
    t.mem = if commitsInSelWrite p then Memory.writeCell (latchedBank s) p.addr p.data s.mem else s.mem := by
  rw [decodeSelWrite_pack] at hexec
  split at hexec
  case isTrue deselected =>
    have tie : commitsInSelWrite p = commitsOnTie p := by
      simp [commitsInSelWrite, commitsOnTie, deselected, Bool.and_comm]
    cases hexec
    rw [tie, leaveWrite_eq]
    split <;> rfl
  case isFalse selected =>
    split at hexec
    case isTrue strobe_low =>
      have holds : commitsInSelWrite p = false := by simp [commitsInSelWrite, strobe_low]
      simpa [holds] using exec_mem_of_not_writesStore rfl hexec
    case isFalse strobe_high =>
      have commits : commitsInSelWrite p = true := by simp [commitsInSelWrite, selected, strobe_high]
      cases hexec
      simp [commits]

/-- Where the outside moves and it is no restart, the step leaves the Store. -/
theorem step_mem_of_not_engineNext {s t : State} (hnext : engineNext s = false)
    (hno_restart : ∀ rest : List Input, s.agenda ≠ .restart :: rest) (hstep : step s = .next t) : t.mem = s.mem := by
  cases hagenda : s.agenda with
  | nil => simp [engineNext, hagenda] at hnext
  | cons input rest =>
    cases input with
    | poll p => simp [engineNext, hagenda] at hnext
    | lookup ce =>
      have hturn : turn s = .run (decodeSelectCode ce) (withAgenda rest s) := by simp [turn, hagenda, withAgenda]
      rw [step_of_run hturn] at hstep
      simpa using exec_mem_of_not_writesStore (decodeSelectCode_not_writesStore ce) hstep
    | observe b a =>
      have hturn : turn s = .outside (observe b a (withAgenda rest s)) := by simp [turn, hagenda, withAgenda]
      cases (step_of_outside hturn).symm.trans hstep
      rfl
    | restart => exact absurd hagenda (hno_restart rest)

/-- On the engine's turn in a mode that takes a sample, the step runs the row the packed sample selects. -/
theorem step_of_sampled {s : State} {select : SampleWord → Instr} (hnext : engineNext s = true)
    (hpoll : enginePoll s = sampled select s) : step s = exec (select (busSample s).pack) (passSample s) :=
  step_of_run ((turn_of_engineNext hnext).trans hpoll)

/-- A poll of a mode none of whose rows writes the Store leaves it. -/
theorem step_mem_of_sampled {s t : State} {select : SampleWord → Instr} (hselect : ∀ w, writesStore (select w) = false)
    (hnext : engineNext s = true) (hpoll : enginePoll s = sampled select s) (hstep : step s = .next t) :
    t.mem = s.mem := by
  rw [step_of_sampled hnext hpoll] at hstep
  exact (exec_mem_of_not_writesStore (hselect _) hstep).trans (passSample_mem s)

/-- A poll in a mode other than SelWrite leaves the Store (42_memory_store.md R105). -/
theorem step_mem_of_mode_ne_selWrite {s t : State} (hnext : engineNext s = true) (hmode : s.mode ≠ .selWrite)
    (hstep : step s = .next t) : t.mem = s.mem := by
  cases m : s.mode with
  | idle => exact step_mem_of_sampled decodeIdle_not_writesStore hnext (by simp [enginePoll, m]) hstep
  | selRead => exact step_mem_of_sampled decodeSelRead_not_writesStore hnext (by simp [enginePoll, m]) hstep
  | selWrite => exact absurd m hmode
  | selWriteDone => exact step_mem_of_sampled decodeSelWriteDone_not_writesStore hnext (by simp [enginePoll, m]) hstep
  | readSettle =>
    have hturn : turn s = .run (decodeReadSettle s.settle) s := by simp [turn_of_engineNext hnext, enginePoll, m]
    rw [step_of_run hturn] at hstep
    exact exec_mem_of_not_writesStore (decodeReadSettle_not_writesStore _) hstep

/-- The Store after the commit a step makes (`commitOf`), if it makes one; `step_mem` ties it to the step. -/
def storeAfter : Option (Bank × Addr × Nibble) → Memory → Memory
  | none, m => m
  | some (b, a, v), m => Memory.writeCell b a v m

/-- The commit of a poll in mode SelWrite. -/
theorem commitOf_of_selWrite {s : State} (hmode : s.mode = .selWrite) (hnext : engineNext s = true) :
    commitOf s =
      if commitsInSelWrite (busSample s) then some (latchedBank s, (busSample s).addr, (busSample s).data)
      else none := by
  simp [commitOf, commitsInSelWrite, hmode, hnext]

/-- What makes a commit, and what it writes where (43_bus_engine.md R122, R124). -/
theorem commitOf_eq_some_iff {s : State} {b : Bank} {a : Addr} {v : Nibble} :
    commitOf s = some (b, a, v) ↔
      s.mode = .selWrite ∧ engineNext s = true ∧ commitsInSelWrite (busSample s) = true ∧
        latchedBank s = b ∧ (busSample s).addr = a ∧ (busSample s).data = v := by
  simp [commitOf, commitsInSelWrite, and_assoc, and_left_comm]

/-- What a step that is no restart does to the Store: the commit it makes, and nothing where it makes none
(42_memory_store.md R105). -/
theorem step_mem {s t : State} (hstep : step s = .next t)
    (hno_restart : ∀ rest : List Input, s.agenda ≠ .restart :: rest) : t.mem = storeAfter (commitOf s) s.mem := by
  cases hnext : engineNext s with
  | false =>
    have no_commit : commitOf s = none := by simp [commitOf, hnext]
    rw [no_commit, storeAfter, step_mem_of_not_engineNext hnext hno_restart hstep]
  | true =>
    by_cases hmode : s.mode = .selWrite
    · rw [step_of_sampled (select := decodeSelWrite) hnext (by simp [enginePoll, hmode])] at hstep
      rw [exec_decodeSelWrite_mem hstep, commitOf_of_selWrite hmode hnext]
      split <;> simp [storeAfter, latchedBank]
    · have no_commit : commitOf s = none := by simp [commitOf, hmode]
      rw [no_commit, storeAfter, step_mem_of_mode_ne_selWrite hnext hmode hstep]

/-- Settles O52: the step does to the Store what its commit does (`step_mem`); without one no cell changes, and with one
only the cell it is to. -/
theorem onlyACommitChangesACell : Obligations.OnlyACommitChangesACell := by
  intro s t b a hstep hno_restart hchanged
  have hmem := step_mem hstep hno_restart
  obtain hcommit | ⟨⟨b', a', v⟩, hcommit⟩ := (commitOf s).eq_none_or_eq_some
  · rw [hcommit] at hmem
    exact absurd (memRead_congr hmem b a) hchanged
  · rw [hcommit] at hmem
    have hread : memRead b a t = if b = b' ∧ a = a' then v else memRead b a s :=
      (memRead_congr (s := memWrite b' a' v s) hmem b a).trans (memRead_memWrite b' b a' a v s)
    obtain ⟨hmode, hnext, commits, rfl, rfl, rfl⟩ := commitOf_eq_some_iff.1 hcommit
    obtain ⟨hwe, htie⟩ : (busSample s).we = true ∧ ((busSample s).ce = 0b11111#5 → Config.commitOnTie = true) := by
      simpa [commitsInSelWrite, Decidable.imp_iff_not_or] using commits
    by_cases hcell : b = latchedBank s ∧ a = (busSample s).addr
    · rw [if_pos hcell] at hread
      exact ⟨hmode, hnext, hwe, hcell.1, hcell.2, hread, htie⟩
    · rw [if_neg hcell] at hread
      exact absurd hread hchanged

end Sys2Proof.Machine
end

section
/-! PROOFS. The engine's rows (43_bus_engine.md): which row a sample selects in each mode, and what the row does to the
state. -/

namespace Sys2Proof.Machine

/-- The mask of the entry rows tells samples apart by their code and strobe only (30_encoding.md R67). -/
theorem pack_and_entry_eq_iff (p q : Sample) :
    p.pack &&& 0x0FC00#20 = q.pack &&& 0x0FC00#20 ↔ p.ce = q.ce ∧ p.we = q.we := by
  have pack_inj : Function.Injective Sample.pack := Function.LeftInverse.injective unpack_pack
  have entry_bits (r : Sample) : r.pack &&& 0x0FC00#20 = Sample.pack ⟨0, r.ce, r.we, 0⟩ := by
    rw [pack_and_entry]
    simp [Sample.pack]
  rw [entry_bits, entry_bits, pack_inj.eq_iff]
  simp

/-- A packed sample meets the bits of an entry row when its code and strobe are those of the bits
(30_encoding.md R67). -/
theorem accepts_entry_pack (m : Mode) (p : Sample) {w : SampleWord} (hmasked : w &&& 0x0FC00#20 = w) :
    SampleRow.accepts ⟨m, w, 0x0FC00#20⟩ p.pack = true ↔ p.ce = w.extractLsb' 10 5 ∧ p.we = w.getLsbD 15 := by
  have fields := pack_and_entry_eq_iff p (Sample.unpack w)
  rw [pack_unpack, hmasked] at fields
  rw [SampleRow.accepts, beq_iff_eq, fields]
  rfl

/-- The row of mode Idle that a packed sample selects is the dispatcher's, whatever the settle count: with the strobe
known, both test the same codes in the same order (30_encoding.md R67, 43_bus_engine.md R110). -/
theorem decodeIdle_pack (settle : Nat) (p : Sample) : decodeIdle p.pack = dispatch .idle settle p := by
  cases hwe : p.we
  all_goals
    simp [decodeIdle, firstRow, Instr.sampleRow, accepts_deselect_pack, accepts_entry_pack, dispatch, selectBank, hwe]
    split_ifs <;> rfl

/-- The row of Idle that enters a read of a bank (43_bus_engine.md R111). -/
def readEntry : Bank → Sample → Instr
  | 0 => .enterReadB0
  | 1 => .enterReadB1
  | 2 => .enterReadB2
  | 3 => .enterReadB3
  | 4 => .enterReadB4

/-- The row of Idle that enters a write of a bank (43_bus_engine.md R112). -/
def writeEntry : Bank → Sample → Instr
  | 0 => .enterWriteB0
  | 1 => .enterWriteB1
  | 2 => .enterWriteB2
  | 3 => .enterWriteB3
  | 4 => .enterWriteB4

/-- On a bank's own code Idle enters that bank, and the strobe tells which way (43_bus_engine.md R110). -/
theorem decodeIdle_pack_of_bankCode {p : Sample} {b : Bank} (hce : p.ce = bankCode b) :
    decodeIdle p.pack = if p.we then readEntry b p else writeEntry b p := by
  have not_deselect : ∀ b : Bank, bankCode b ≠ 0b11111#5 := by decide
  rw [decodeIdle_pack 0, dispatch, hce, selectBank_bankCode, if_neg (not_deselect b)]
  fin_cases b <;> rfl

/-- The row of mode SelWriteDone that a packed sample selects: the code alone decides (30_encoding.md R67; log 14). -/
theorem decodeSelWriteDone_pack (p : Sample) :
    decodeSelWriteDone p.pack = if p.ce = 0b11111#5 then .doneDeselect p else .doneWait p := by
  simp [decodeSelWriteDone, firstRow, Instr.sampleRow, accepts_deselect_pack]

/-- In every mode of a selected bank an engine poll runs the dispatcher's row of its sample (43_bus_engine.md R110). -/
theorem step_of_selectedMode {s : State} (hselected : selectedMode s.mode = true) (hnext : engineNext s = true) :
    step s = exec (dispatch s.mode s.settle (busSample s)) (passSample s) := by
  cases hmode : s.mode with
  | idle | readSettle => simp [hmode, selectedMode] at hselected
  | selRead =>
    rw [step_of_sampled (select := decodeSelRead) hnext (by simp [enginePoll, hmode]), decodeSelRead_pack, dispatch]
  | selWrite =>
    rw [step_of_sampled (select := decodeSelWrite) hnext (by simp [enginePoll, hmode]), decodeSelWrite_pack, dispatch]
  | selWriteDone =>
    rw [step_of_sampled (select := decodeSelWriteDone) hnext (by simp [enginePoll, hmode]), decodeSelWriteDone_pack,
      dispatch]

/-- The entry row of a bank runs its ENTER_READ (43_bus_engine.md R111). -/
theorem exec_readEntry (b : Bank) (p : Sample) (s : State) : exec (readEntry b p) s = enterRead b p s := by
  fin_cases b <;> rfl

/-- The entry row of a bank runs its ENTER_WRITE (43_bus_engine.md R112). -/
theorem exec_writeEntry (b : Bank) (p : Sample) (s : State) : exec (writeEntry b p) s = enterWrite b s := by
  fin_cases b <;> rfl

/-- ENTER_READ(b) as one update of the state, with its two events in order (43_bus_engine.md R111). -/
theorem enterRead_eq (b : Bank) (p : Sample) (s : State) :
    enterRead b p s = .next { s with
      bank := some b
      dir := .output
      out := memRead b p.addr s
      mode := .selRead
      observer := heard [.select b .read, .read b p.addr (memRead b p.addr s)] s.observer } := by
  have events := heard_heard [.select b .read] [.read b p.addr (memRead b p.addr s)] s.observer
  rw [List.singleton_append] at events
  rw [← events]
  rfl

/-- ENTER_WRITE(b) as one update of the state (43_bus_engine.md R112). -/
theorem enterWrite_eq (b : Bank) (s : State) :
    enterWrite b s = .next { s with
      bank := some b
      dir := .input
      mode := .selWrite
      observer := heard [.select b .write] s.observer } := rfl

/-- READ_TO_WRITE as one update of the state (43_bus_engine.md R115). -/
theorem exec_readToWrite_eq (p : Sample) (s : State) :
    exec (.readToWrite p) s = .next { s with dir := .input, mode := .selWrite } := rfl

/-- READ_DESELECT as one update of the state (43_bus_engine.md R118). -/
theorem exec_readDeselect_eq (p : Sample) (s : State) :
    exec (.readDeselect p) s = .next { s with
      bank := none
      settle := Config.settlePolls
      mode := .readSettle
      observer := heard [.deselect (latchedBank s)] s.observer } := rfl

/-- SETTLE_COUNT as one update of the state (43_bus_engine.md R120). -/
theorem exec_settleCount_eq (s : State) : exec .settleCount s = .next { s with settle := s.settle - 1 } := rfl

/-- WRITE_COMMIT is the commit and the change of mode (43_bus_engine.md R124). -/
theorem exec_writeCommit_eq (p : Sample) (s : State) :
    exec (.writeCommit p) s = .next (setMode .selWriteDone (commit p s)) := rfl

/-- What a cell reads as after the commit of a sample (43_bus_engine.md R124). -/
theorem memRead_commit (b : Bank) (a : Addr) (p : Sample) (s : State) :
    memRead b a (commit p s) = if b = latchedBank s ∧ a = p.addr then p.data else memRead b a s :=
  memRead_memWrite (latchedBank s) b p.addr a p.data s

/-- WRITE_DESELECT is the end of the transaction, after the commit of the tie case (43_bus_engine.md R122; log 6). -/
theorem exec_writeDeselect_eq (p : Sample) (s : State) :
    exec (.writeDeselect p) s = .next (leaveWrite (if commitsOnTie p then commit p s else s)) := rfl

/-- DONE_DESELECT is the end of the transaction (43_bus_engine.md R126). -/
theorem exec_doneDeselect_eq (p : Sample) (s : State) : exec (.doneDeselect p) s = .next (leaveWrite s) := rfl

end Sys2Proof.Machine
end

section
/-! PROOFS. The engine's statements on mode Idle (43_bus_engine.md R111 to R113): the dispatcher's row, then the row's
update. -/

namespace Sys2Proof.Machine

/-- Settles O14: the dispatcher of Idle reads the code alone where it names no bank, and both rows are the identity. -/
theorem idleWithoutABankChangesNothing : Obligations.IdleWithoutABankChangesNothing := by
  intro p s no_bank
  have row : decodeIdle p.pack = if p.ce = 0b11111#5 then .idleDeselected p else .idleInvalid p := by
    simp [decodeIdle_pack 0, dispatch, no_bank]
  exact ⟨row, rfl, rfl⟩

/-- Settles O15: a bank's own code with the strobe high selects that bank's row, which is `enterRead` of the bank. -/
theorem enterReadLatchesTheBankAndDrivesTheCell : Obligations.EnterReadLatchesTheBankAndDrivesTheCell := by
  intro p s hwe
  have row {b : Bank} (hce : p.ce = bankCode b) : decodeIdle p.pack = readEntry b p := by
    simp [decodeIdle_pack_of_bankCode hce, hwe]
  have entered (b : Bank) := (exec_readEntry b p s).trans (enterRead_eq b p s)
  exact ⟨fun hce => ⟨row (b := 0) hce, entered 0⟩, fun hce => ⟨row (b := 1) hce, entered 1⟩,
    fun hce => ⟨row (b := 2) hce, entered 2⟩, fun hce => ⟨row (b := 3) hce, entered 3⟩,
    fun hce => ⟨row (b := 4) hce, entered 4⟩⟩

/-- Settles O16: a bank's own code with the strobe low selects that bank's row, which is `enterWrite` of the bank. -/
theorem enterWriteLatchesTheBankAndWritesNothing : Obligations.EnterWriteLatchesTheBankAndWritesNothing := by
  intro p s hwe
  have row {b : Bank} (hce : p.ce = bankCode b) : decodeIdle p.pack = writeEntry b p := by
    simp [decodeIdle_pack_of_bankCode hce, hwe]
  have entered (b : Bank) := (exec_writeEntry b p s).trans (enterWrite_eq b s)
  exact ⟨fun hce => ⟨row (b := 0) hce, entered 0⟩, fun hce => ⟨row (b := 1) hce, entered 1⟩,
    fun hce => ⟨row (b := 2) hce, entered 2⟩, fun hce => ⟨row (b := 3) hce, entered 3⟩,
    fun hce => ⟨row (b := 4) hce, entered 4⟩⟩

end Sys2Proof.Machine
end

section
/-! PROOFS. The engine's statements on the modes of a selected bank and the settle delay (43_bus_engine.md R114 to
R126). -/

namespace Sys2Proof.Machine

/-- Settles O17: the served cell is that of the latched bank, which the row does not ask the sample's code for. -/
theorem serveReadDrivesTheLatchedBanksCell : Obligations.ServeReadDrivesTheLatchedBanksCell := by
  intro p s b hce hwe hbank
  refine ⟨by simp [decodeSelRead_pack, hce, hwe], ?_⟩
  rw [exec_serveRead_eq, servedCell, latchedBank_of_some hbank]

/-- Settles O19: the deselect test comes before the strobe test, and the row loads the delay and leaves the lines. -/
theorem readDeselectLoadsTheSettleDelay : Obligations.ReadDeselectLoadsTheSettleDelay := by
  intro p s b hce hbank
  refine ⟨by simp [decodeSelRead_pack, hce], ?_⟩
  rw [exec_readDeselect_eq, latchedBank_of_some hbank]

/-- Settles O20: a count of n + 1 is not 0, so the row is SETTLE_COUNT, which leaves n. -/
theorem settleCountTakesOneOff : Obligations.SettleCountTakesOneOff := by
  intro s n hsettle
  refine ⟨by simp [decodeReadSettle, hsettle], ?_⟩
  rw [exec_settleCount_eq, hsettle, Nat.add_sub_cancel]

/-- Settles O23: the low strobe selects the row, which is the identity. -/
theorem writeHoldChangesNothing : Obligations.WriteHoldChangesNothing := by
  intro p s hce hwe
  exact ⟨by simp [decodeSelWrite_pack, hce, hwe], rfl⟩

/-- Settles O24: the row is `commit` and the change of mode, and the commit is a write of the latched bank's cell at the
edge sample's address (`memRead_commit`). -/
theorem writeCommitStoresTheEdgeSample : Obligations.WriteCommitStoresTheEdgeSample := by
  intro p s b hce hwe hbank
  have latched : latchedBank s = b := latchedBank_of_some hbank
  refine ⟨by simp [decodeSelWrite_pack, hce, hwe], _, exec_writeCommit_eq p s, fun b' a' => ?_, ?_⟩
  · rw [← latched, ← memRead_commit]
    exact memRead_congr (setMode_mem _ _) b' a'
  · rw [← latched]
    rfl

/-- Settles O26: the row is the end of the transaction, and in Idle the next poll samples. -/
theorem doneDeselectReturnsToIdleAtOnce : Obligations.DoneDeselectReturnsToIdleAtOnce := by
  intro p s b hce hbank
  refine ⟨by simp [decodeSelWriteDone_pack, hce], ?_, rfl⟩
  rw [exec_doneDeselect_eq, leaveWrite_eq, latchedBank_of_some hbank]

end Sys2Proof.Machine
end

section
/-! PROOFS. The engine's statement on whole transactions (43_bus_engine.md R128): only the deselect code ends one. -/

namespace Sys2Proof.Machine

/-- The state t stays in the transaction of s: a selected mode, the same bank, the same things to come. -/
structure StaysSelected (s t : State) : Prop where
  mode : selectedMode t.mode = true
  bank : t.bank = s.bank
  agenda : t.agenda = s.agenda

/-- A sample without the deselect code keeps the transaction: each of the five rows it can select does
(43_bus_engine.md R128). -/
theorem exec_dispatch_staysSelected {s : State} {settle : Nat} {p : Sample} (hselected : selectedMode s.mode = true)
    (hce : p.ce ≠ 0b11111#5) : ∃ t : State, exec (dispatch s.mode settle p) s = .next t ∧ StaysSelected s t := by
  cases hmode : s.mode with
  | idle | readSettle => simp [hmode, selectedMode] at hselected
  | selRead =>
    rw [dispatch, if_neg hce]
    split
    case isTrue strobe_low => exact ⟨_, exec_readToWrite_eq p s, rfl, rfl, rfl⟩
    case isFalse strobe_high => exact ⟨_, exec_serveRead_eq p s, hselected, rfl, rfl⟩
  | selWrite =>
    rw [dispatch, if_neg hce]
    split
    case isTrue strobe_low => exact ⟨s, rfl, hselected, rfl, rfl⟩
    case isFalse strobe_high => exact ⟨_, exec_writeCommit_eq p s, rfl, rfl, rfl⟩
  | selWriteDone =>
    rw [dispatch, if_neg hce]
    exact ⟨s, rfl, hselected, rfl, rfl⟩

/-- A sample of the deselect code ends the transaction: each of the three deselect rows does
(43_bus_engine.md R118, R122, R126). -/
theorem exec_dispatch_deselects {m : Mode} {settle : Nat} {p : Sample} (s : State) (hselected : selectedMode m = true)
    (hce : p.ce = 0b11111#5) :
    ∃ t : State, exec (dispatch m settle p) s = .next t ∧ selectedMode t.mode = false ∧ t.bank = none := by
  cases m with
  | idle | readSettle => cases hselected
  | selRead =>
    rw [dispatch, if_pos hce]
    exact ⟨_, exec_readDeselect_eq p s, rfl, rfl⟩
  | selWrite =>
    rw [dispatch, if_pos hce]
    exact ⟨_, exec_writeDeselect_eq p s, rfl, rfl⟩
  | selWriteDone =>
    rw [dispatch, if_pos hce]
    exact ⟨_, exec_doneDeselect_eq p s, rfl, rfl⟩

/-- A listed poll in a selected mode runs the dispatcher's row of its pin levels (43_bus_engine.md R110). -/
theorem step_listed_of_selectedMode {s : State} {p : Pins} {rest : List Input} (hselected : selectedMode s.mode = true)
    (hagenda : s.agenda = .poll p :: rest) :
    step s = exec (dispatch s.mode s.settle p.toSample) (withAgenda rest s) := by
  rw [step_of_selectedMode hselected (by simp [engineNext, hagenda]), busSample_of_poll hagenda,
    passSample_of_poll hagenda]

/-- A run of listed polls without the deselect code keeps the transaction (43_bus_engine.md R128). -/
theorem runSteps_polls_staysSelected {rest : List Input} (ps : List Pins) {s : State} (hps : ∀ p ∈ ps, p.ce ≠ 0b11111#5)
    (hselected : selectedMode s.mode = true) (hagenda : s.agenda = ps.map Input.poll ++ rest) :
    ∃ t : State, runSteps ps.length s = .next t ∧ StaysSelected (withAgenda rest s) t := by
  induction ps generalizing s with
  | nil => exact ⟨s, rfl, hselected, rfl, hagenda⟩
  | cons p ps ih =>
    obtain ⟨hce, hps⟩ := List.forall_mem_cons.1 hps
    have hstep := step_listed_of_selectedMode hselected hagenda
    obtain ⟨u, hexec, hu⟩ := exec_dispatch_staysSelected (s := withAgenda (ps.map Input.poll ++ rest) s)
      (settle := s.settle) (p := p.toSample) hselected hce
    obtain ⟨t, hrun, ht⟩ := ih hps hu.mode hu.agenda
    exact ⟨t, (runSteps_succ (hstep.trans hexec)).trans hrun, ht.mode, ht.bank.trans hu.bank, ht.agenda⟩

/-- Settles O46: every other code keeps the transaction along the run, and the deselect code ends it in each of the
three modes. -/
theorem onlyTheDeselectCodeLeavesASelectedMode : Obligations.OnlyTheDeselectCodeLeavesASelectedMode := by
  constructor
  · intro ps s rest hps hselected hagenda
    obtain ⟨t, hrun, ht⟩ := runSteps_polls_staysSelected ps hps hselected hagenda
    exact ⟨t, hrun, ht.mode, ht.bank, ht.agenda⟩
  · intro s p rest hce hselected hagenda
    rw [step_listed_of_selectedMode hselected hagenda]
    exact exec_dispatch_deselects _ hselected hce

end Sys2Proof.Machine
end

section
/-! PROOFS. The Observer's statements (44_observer_interface.md): an event reaches the Observer's stream alone, and the
machine takes the same steps without the Observer. -/

namespace Sys2Proof.Machine

/-- EMIT is the named update of the Observer (44_observer_interface.md R140). -/
theorem exec_emit_eq (e : Event) (s : State) : exec (.emit e) s = .next (emit e s) := rfl

/-- In a build without an Observer an event is dropped (44_observer_interface.md R140; log 10). -/
theorem emit_eq_self_of_observer_none {e : Event} {s : State} (h : s.observer = none) : emit e s = s := by
  rw [emit, h, Option.map_none, ← h]

/-- Settles O13: EMIT is `emit`, an update of the Observer alone, which is the identity where there is none. -/
theorem emitReachesAPresentObserverOnly : Obligations.EmitReachesAPresentObserverOnly := by
  intro e s
  refine ⟨exec_emit_eq e s, fun absent => ?_, fun o present => ?_⟩
  · rw [exec_emit_eq, emit_eq_self_of_observer_none absent]
  · rw [present, heard, Option.map_some]

/-- A look-up at the head of the agenda runs its row of the decode table (log 3). -/
theorem turn_of_lookup {s : State} {ce : SelectCode} {rest : List Input} (h : s.agenda = .lookup ce :: rest) :
    turn s = .run (decodeSelectCode ce) (withAgenda rest s) := by
  simp [turn, h, withAgenda]

/-- An Observer read at the head of the agenda is the outside's move (log 11). -/
theorem turn_of_observe {s : State} {b : Bank} {a : Addr} {rest : List Input} (h : s.agenda = .observe b a :: rest) :
    turn s = .outside (observe b a (withAgenda rest s)) := by
  simp [turn, h, withAgenda]

/-- A power-off at the head of the agenda is the outside's move (log 12). -/
theorem turn_of_restart {s : State} {rest : List Input} (h : s.agenda = .restart :: rest) :
    turn s = .outside (restart (withAgenda rest s)) := by
  simp [turn, h, withAgenda]

/-- An input that is not the Observer's heads the agenda without the Observer's reads too. -/
theorem withoutObserver_agenda_cons {s : State} {i : Input} {rest : List Input} (h : s.agenda = i :: rest)
    (hi : i.isObserver = false) :
    (withoutObserver s).agenda = i :: (withoutObserver (withAgenda rest s)).agenda := by
  simp [withoutObserver, h, hi]

/-- Moving on to the rest of the agenda agrees with leaving out the Observer's reads. -/
theorem withAgenda_withoutObserver (rest : List Input) (s : State) :
    withAgenda (withoutObserver (withAgenda rest s)).agenda (withoutObserver s) = withoutObserver (withAgenda rest s) :=
  rfl

/-- An Observer read touches only what `withoutObserver` leaves out (44_observer_interface.md R142). -/
theorem withoutObserver_observe (b : Bank) (a : Addr) (s : State) :
    withoutObserver (observe b a s) = withoutObserver s := rfl

/-- An Observer read is itself among what `withoutObserver` leaves out. -/
theorem withoutObserver_withAgenda_of_observe {s : State} {b : Bank} {a : Addr} {rest : List Input}
    (h : s.agenda = .observe b a :: rest) : withoutObserver (withAgenda rest s) = withoutObserver s := by
  simp [withoutObserver, withAgenda, h]

/-- A restart starts the Observer anew, so what is left without it does not depend on whether there was one. -/
theorem withoutObserver_restart (s : State) :
    withoutObserver (restart (withoutObserver s)) = withoutObserver (restart s) := by
  simp [withoutObserver, restart]

/-- The engine moves next when nothing is listed or a poll is (log 1). -/
theorem engineNext_iff {s : State} :
    engineNext s = true ↔ s.agenda = [] ∨ ∃ (p : Pins) (rest : List Input), s.agenda = .poll p :: rest := by
  unfold engineNext
  split <;> simp_all

/-- The Observer moves next when one of its reads is listed (log 11). -/
theorem observerNext_iff {s : State} :
    observerNext s = true ↔ ∃ (b : Bank) (a : Addr) (rest : List Input), s.agenda = .observe b a :: rest := by
  unfold observerNext
  split <;> simp_all

theorem withoutObserver_agenda_nil {s : State} (h : s.agenda = []) : (withoutObserver s).agenda = [] := by
  simp [withoutObserver, h]

/-- The engine moves next without the Observer too. -/
theorem engineNext_withoutObserver {s : State} (hnext : engineNext s = true) :
    engineNext (withoutObserver s) = true := by
  obtain hnone | ⟨p, rest, hpoll⟩ := engineNext_iff.1 hnext
  · exact engineNext_iff.2 (.inl (withoutObserver_agenda_nil hnone))
  · exact engineNext_iff.2 (.inr ⟨p, _, withoutObserver_agenda_cons hpoll rfl⟩)

/-- On the engine's turn the sample is the same without the Observer. -/
theorem busSample_withoutObserver {s : State} (hnext : engineNext s = true) :
    busSample (withoutObserver s) = busSample s := by
  obtain hnone | ⟨p, rest, hpoll⟩ := engineNext_iff.1 hnext
  · rw [busSample, busSample, withoutObserver_agenda_nil hnone, hnone]
    rfl
  · rw [busSample_of_poll hpoll, busSample_of_poll (withoutObserver_agenda_cons hpoll rfl)]

/-- On the engine's turn the sample is used up the same way without the Observer. -/
theorem passSample_withoutObserver {s : State} (hnext : engineNext s = true) :
    passSample (withoutObserver s) = withoutObserver (passSample s) := by
  obtain hnone | ⟨p, rest, hpoll⟩ := engineNext_iff.1 hnext
  · rw [passSample_of_empty hnone, passSample_of_empty (withoutObserver_agenda_nil hnone)]
    rfl
  · rw [passSample_of_poll hpoll, passSample_of_poll (withoutObserver_agenda_cons hpoll rfl),
      withAgenda_withoutObserver]

/-- Every operation but SAMPLE runs the same without the Observer: of what `withoutObserver` leaves out it touches the
Observer's events alone (44_observer_interface.md R144). SAMPLE called on its own reads the agenda, whose head may be an
Observer read. -/
theorem exec_withoutObserver {i : Instr} (hi : i ≠ .sample) (s : State) :
    ∃ t : State, exec i s = .next t ∧ exec i (withoutObserver s) = .next (withoutObserver t) := by
  cases i with
  | sample => exact absurd rfl hi
  | writeDeselect p =>
    refine ⟨_, exec_writeDeselect_eq p s, ?_⟩
    rw [exec_writeDeselect_eq]
    split <;> rfl
  | _ => exact ⟨_, rfl, rfl⟩

theorem decodeIdle_ne_sample (w : SampleWord) : decodeIdle w ≠ .sample :=
  firstRow_of_forall (P := (· ≠ .sample)) (by simp) (by simp)

theorem decodeSelRead_ne_sample (w : SampleWord) : decodeSelRead w ≠ .sample :=
  firstRow_of_forall (P := (· ≠ .sample)) (by simp) (by simp)

theorem decodeSelWrite_ne_sample (w : SampleWord) : decodeSelWrite w ≠ .sample :=
  firstRow_of_forall (P := (· ≠ .sample)) (by simp) (by simp)

theorem decodeSelWriteDone_ne_sample (w : SampleWord) : decodeSelWriteDone w ≠ .sample :=
  firstRow_of_forall (P := (· ≠ .sample)) (by simp) (by simp)

theorem decodeReadSettle_ne_sample (n : Nat) : decodeReadSettle n ≠ .sample := by
  unfold decodeReadSettle
  split <;> simp

theorem decodeSelectCode_ne_sample (ce : SelectCode) : decodeSelectCode ce ≠ .sample := by
  revert ce
  decide

/-- The step of s is matched without the Observer: both machines move, to states equal without their Observers. -/
def StepMatched (s : State) : Prop :=
  ∃ t u : State, step s = .next t ∧ step (withoutObserver s) = .next u ∧ withoutObserver t = withoutObserver u

/-- Equal rows run from states equal without the Observer match. -/
theorem stepMatched_of_run {s t : State} {i : Instr} (hi : i ≠ .sample) (hstep : step s = exec i t)
    (hstep' : step (withoutObserver s) = exec i (withoutObserver t)) : StepMatched s := by
  obtain ⟨v, hexec, hexec'⟩ := exec_withoutObserver hi t
  exact ⟨v, withoutObserver v, hstep.trans hexec, hstep'.trans hexec', (withoutObserver_idem v).symm⟩

/-- A poll that takes a sample takes the same one without the Observer, so it selects the same row. -/
theorem stepMatched_of_sampled {s : State} {select : SampleWord → Instr} (hselect : ∀ w, select w ≠ .sample)
    (hnext : engineNext s = true) (hpoll : ∀ r : State, r.mode = s.mode → enginePoll r = sampled select r) :
    StepMatched s := by
  apply stepMatched_of_run (hselect _) (step_of_sampled hnext (hpoll s rfl))
  rw [step_of_sampled (engineNext_withoutObserver hnext) (hpoll _ rfl), busSample_withoutObserver hnext,
    passSample_withoutObserver hnext]

/-- In ReadSettle a poll runs the row the settle count selects (43_bus_engine.md R119). -/
theorem step_of_readSettle {s : State} (hmode : s.mode = .readSettle) (hnext : engineNext s = true) :
    step s = exec (decodeReadSettle s.settle) s :=
  step_of_run ((turn_of_engineNext hnext).trans (by simp [enginePoll, hmode]))

/-- Every poll of the engine is matched: the mode and the settle count, which select the row beside the sample, are
among what is equal (43_bus_engine.md R110). -/
theorem stepMatched_of_engineNext {s : State} (hnext : engineNext s = true) : StepMatched s := by
  cases hmode : s.mode with
  | idle => exact stepMatched_of_sampled decodeIdle_ne_sample hnext (by simp +contextual [enginePoll, hmode])
  | selRead => exact stepMatched_of_sampled decodeSelRead_ne_sample hnext (by simp +contextual [enginePoll, hmode])
  | selWrite => exact stepMatched_of_sampled decodeSelWrite_ne_sample hnext (by simp +contextual [enginePoll, hmode])
  | selWriteDone =>
    exact stepMatched_of_sampled decodeSelWriteDone_ne_sample hnext (by simp +contextual [enginePoll, hmode])
  | readSettle =>
    exact stepMatched_of_run (decodeReadSettle_ne_sample _) (step_of_readSettle hmode hnext)
      (step_of_readSettle hmode (engineNext_withoutObserver hnext))

/-- Every step but an Observer read is matched: a poll, a look-up and a restart each head both agendas. -/
theorem stepMatched_of_not_observerNext {s : State} (hnext : observerNext s = false) : StepMatched s := by
  cases hagenda : s.agenda with
  | nil => exact stepMatched_of_engineNext (engineNext_iff.2 (.inl hagenda))
  | cons input rest =>
    cases input with
    | poll p => exact stepMatched_of_engineNext (engineNext_iff.2 (.inr ⟨p, rest, hagenda⟩))
    | lookup ce =>
      apply stepMatched_of_run (decodeSelectCode_ne_sample ce) (step_of_run (turn_of_lookup hagenda))
      rw [step_of_run (turn_of_lookup (withoutObserver_agenda_cons hagenda rfl)), withAgenda_withoutObserver]
    | observe b a => simp [observerNext, hagenda] at hnext
    | restart =>
      refine ⟨_, _, step_of_outside (turn_of_restart hagenda),
        step_of_outside (turn_of_restart (withoutObserver_agenda_cons hagenda rfl)), ?_⟩
      rw [withAgenda_withoutObserver, withoutObserver_restart]

/-- An Observer read steps the machine and leaves it the same without the Observer (44_observer_interface.md R142). -/
theorem step_observe_withoutObserver {s : State} (hnext : observerNext s = true) :
    ∃ t : State, step s = .next t ∧ withoutObserver t = withoutObserver s := by
  obtain ⟨b, a, rest, hagenda⟩ := observerNext_iff.1 hnext
  refine ⟨_, step_of_outside (turn_of_observe hagenda), ?_⟩
  rw [withoutObserver_observe, withoutObserver_withAgenda_of_observe hagenda]

/-- States equal without their Observers show the same lines. -/
theorem lines_congr_withoutObserver {t u : State} (h : withoutObserver t = withoutObserver u) : lines t = lines u := by
  rw [← withoutObserver_lines t, h, withoutObserver_lines]

/-- States equal without their Observers have the same Store. -/
theorem mem_congr_withoutObserver {t u : State} (h : withoutObserver t = withoutObserver u) : t.mem = u.mem := by
  rw [← withoutObserver_mem t, h, withoutObserver_mem]

/-- Settles O55: an Observer read writes only what `withoutObserver` leaves out; every other turn selects the same
operation with and without the Observer, and no operation a turn selects reads what is left out. -/
theorem observerNeverInfluencesTheEngine : Obligations.ObserverNeverInfluencesTheEngine := by
  intro s
  refine ⟨step_observe_withoutObserver, fun hnext => ?_⟩
  obtain ⟨t, u, hstep, hstep', heq⟩ := stepMatched_of_not_observerNext hnext
  exact ⟨t, u, hstep, hstep', heq, lines_congr_withoutObserver heq, memRead_congr (mem_congr_withoutObserver heq)⟩

end Sys2Proof.Machine
end

section
/-! PROOFS. The encoder's and the decoder's statements (30_encoding.md sections 1, 3 and 4): the match and mask table is
the dispatcher of 43_bus_engine.md R110, whose row is the one well-formed operation that carries the sample. -/

namespace Sys2Proof.Machine

/-- In every mode that samples, the decoder's row of a packed sample is the dispatcher's (30_encoding.md R67,
43_bus_engine.md R110). -/
theorem decode_pack {m : Mode} (hm : m ≠ .readSettle) (settle : Nat) (p : Sample) :
    decode m (.sample20 p.pack) = .ok (dispatch m settle p) := by
  cases m with
  | idle => rw [decode, decodeIdle_pack settle]
  | selRead => rw [decode, decodeSelRead_pack, dispatch]
  | selWrite => rw [decode, decodeSelWrite_pack, dispatch]
  | selWriteDone => rw [decode, decodeSelWriteDone_pack, dispatch]
  | readSettle => exact absurd rfl hm

/-- In ReadSettle the settle count alone selects the row, and both definitions read it alike (43_bus_engine.md R119). -/
theorem decodeReadSettle_eq_dispatch (settle : Nat) (p : Sample) :
    decodeReadSettle settle = dispatch .readSettle settle p := by
  cases settle <;> rfl

/-- Settles O28: mode by mode the table's row is the dispatcher's. -/
theorem tableAgreesWithTheDispatcher : Obligations.TableAgreesWithTheDispatcher := by
  intro m settle p
  refine ⟨fun hm => decode_pack hm settle p, ?_⟩
  rintro rfl
  exact decodeReadSettle_eq_dispatch settle p

/-- The operation i is a well-formed row of mode m and carries the sample p (30_encoding.md R67). -/
structure RowCarries (m : Mode) (p : Sample) (i : Instr) : Prop where
  wf : i.wf = true
  mode : i.sampleRow.map SampleRow.mode = some m
  sample : i.sample? = some p

/-- A code with a row of its own in Idle is the deselect code or a bank's (30_encoding.md R64). -/
theorem mem_namedCodes_iff {ce : SelectCode} : ce ∈ namedCodes ↔ ce = 0b11111#5 ∨ ∃ b : Bank, ce = bankCode b := by
  revert ce
  decide

/-- On a bank's own code the dispatcher of Idle enters that bank, and the strobe tells which way
(43_bus_engine.md R110). -/
theorem dispatch_idle_of_bankCode {p : Sample} {b : Bank} (settle : Nat) (hce : p.ce = bankCode b) :
    dispatch .idle settle p = if p.we then readEntry b p else writeEntry b p := by
  rw [← decodeIdle_pack, decodeIdle_pack_of_bankCode hce]

/-- On a code of no bank the dispatcher of Idle tells the deselect code from the invalid ones
(43_bus_engine.md R113). -/
theorem dispatch_idle_of_no_bank {p : Sample} (settle : Nat) (hce : ∀ b : Bank, p.ce ≠ bankCode b) :
    dispatch .idle settle p = if p.ce = 0b11111#5 then .idleDeselected p else .idleInvalid p := by
  rw [dispatch, selectBank_eq_none_of_ne_bankCode hce]

theorem readEntry_carries {p : Sample} {b : Bank} (hce : p.ce = bankCode b) (hwe : p.we = true) :
    RowCarries .idle p (readEntry b p) := by
  have entry_wf : (readEntry b p).wf = (p.ce == bankCode b && p.we) := by fin_cases b <;> rfl
  exact ⟨by simp [entry_wf, hce, hwe], by fin_cases b <;> rfl, by fin_cases b <;> rfl⟩

theorem writeEntry_carries {p : Sample} {b : Bank} (hce : p.ce = bankCode b) (hwe : p.we = false) :
    RowCarries .idle p (writeEntry b p) := by
  have entry_wf : (writeEntry b p).wf = (p.ce == bankCode b && !p.we) := by fin_cases b <;> rfl
  exact ⟨by simp [entry_wf, hce, hwe], by fin_cases b <;> rfl, by fin_cases b <;> rfl⟩

/-- The dispatcher's row in Idle carries the sample, whether its code names a bank or not. -/
theorem dispatch_idle_carries (settle : Nat) (p : Sample) : RowCarries .idle p (dispatch .idle settle p) := by
  by_cases hbank : ∃ b : Bank, p.ce = bankCode b
  · obtain ⟨b, hce⟩ := hbank
    rw [dispatch_idle_of_bankCode settle hce]
    split
    case isTrue hwe => exact readEntry_carries hce hwe
    case isFalse hwe => exact writeEntry_carries hce (by simpa using hwe)
  · rw [dispatch_idle_of_no_bank settle (not_exists.1 hbank)]
    split
    case isTrue hce => exact ⟨by simp [Instr.wf, hce], rfl, rfl⟩
    case isFalse hce =>
      have unnamed : p.ce ∉ namedCodes := fun h => (mem_namedCodes_iff.1 h).elim hce hbank
      exact ⟨by simp [Instr.wf, unnamed], rfl, rfl⟩

/-- The dispatcher's row carries the sample: the rows are complete (43_bus_engine.md R127). -/
theorem dispatch_carries {m : Mode} (hm : m ≠ .readSettle) (settle : Nat) (p : Sample) :
    RowCarries m p (dispatch m settle p) := by
  cases m with
  | idle => exact dispatch_idle_carries settle p
  | selRead | selWrite =>
    rw [dispatch]
    split
    case isTrue hce => exact ⟨by simp [Instr.wf, hce], rfl, rfl⟩
    case isFalse hce => split <;> exact ⟨by simp_all [Instr.wf], rfl, rfl⟩
  | selWriteDone =>
    rw [dispatch]
    split <;> exact ⟨by simp_all [Instr.wf], rfl, rfl⟩
  | readSettle => exact absurd rfl hm

/-- A row that carries the sample is the dispatcher's: its condition is the dispatcher's test, and IDLE_INVALID has what no
other row of Idle takes. So the rows are exclusive (43_bus_engine.md R127). -/
theorem RowCarries.eq_dispatch {m : Mode} {p : Sample} {i : Instr} (hi : RowCarries m p i) (settle : Nat) :
    i = dispatch m settle p := by
  obtain ⟨hwf, hmode, hsample⟩ := hi
  cases i with
  | idleInvalid q =>
    cases hsample
    cases hmode
    have unnamed : p.ce ∉ namedCodes := by simpa [Instr.wf] using hwf
    rw [mem_namedCodes_iff, not_or] at unnamed
    rw [dispatch_idle_of_no_bank settle (not_exists.1 unnamed.2), if_neg unnamed.1]
  | _ =>
    cases hsample <;> cases hmode <;> simp_all [Instr.wf, dispatch, selectBank]

/-- Settles O29: the dispatcher's row carries the sample, and every row that does is the dispatcher's. -/
theorem exactlyOneRowMeetsASample : Obligations.ExactlyOneRowMeetsASample := by
  intro m p hm
  constructor
  · obtain ⟨hwf, hmode, hsample⟩ := dispatch_carries hm 0 p
    exact ⟨dispatch m 0 p, hwf, hmode, hsample⟩
  · intro i j hi hj himode hjmode hisample hjsample
    have hi : i = dispatch m 0 p := RowCarries.eq_dispatch ⟨hi, himode, hisample⟩ 0
    have hj : j = dispatch m 0 p := RowCarries.eq_dispatch ⟨hj, hjmode, hjsample⟩ 0
    rw [hi, hj]

/-- The decode table's row of an operation's select code is the operation (41_chip_select_decoder.md R90). -/
theorem decodeSelectCode_of_selectCode {i : Instr} {ce : SelectCode} (h : i.selectCode = some ce) :
    decodeSelectCode ce = i := by
  cases i <;> cases h <;> rfl

/-- The decode table's row of a select code has that code (41_chip_select_decoder.md R90). -/
theorem selectCode_decodeSelectCode (ce : SelectCode) : (decodeSelectCode ce).selectCode = some ce := by
  revert ce
  decide

theorem decodeSelectCode_wf (ce : SelectCode) : (decodeSelectCode ce).wf = true := by
  revert ce
  decide

/-- An operation carries a sample exactly when a sample selects it (30_encoding.md R72). -/
theorem sample?_eq_none_iff {i : Instr} : i.sample? = none ↔ i.sampleRow = none := by
  cases i <;> simp [Instr.sample?, Instr.sampleRow]

/-- An operation that carries a sample has no select code: it has one format (30_encoding.md R72). -/
theorem selectCode_of_sample? {i : Instr} {p : Sample} (h : i.sample? = some p) : i.selectCode = none := by
  cases i <;> cases h <;> rfl

theorem encode_of_selectCode {i : Instr} {ce : SelectCode} (h : i.selectCode = some ce) : encode i = .ok (.ce5 ce) := by
  rw [encode, h]

theorem encode_of_sample? {i : Instr} {p : Sample} (h : i.sample? = some p) : encode i = .ok (.sample20 p.pack) := by
  rw [encode, selectCode_of_sample? h, h]

/-- No operation has a word but those with a select code or a sample (30_encoding.md R72). -/
theorem encode_of_none {i : Instr} (hcode : i.selectCode = none) (hsample : i.sample? = none) :
    encode i = .error .noWord := by
  rw [encode, hcode, hsample]

/-- No sample selects an operation of mode ReadSettle (43_bus_engine.md R119). -/
theorem rowMode_ne_readSettle (i : Instr) : i.rowMode ≠ .readSettle := by
  cases i <;> simp [Instr.rowMode, Instr.sampleRow]

/-- A well-formed operation that carries a sample is a row of its own mode. -/
theorem carries_rowMode {i : Instr} {p : Sample} (hwf : i.wf = true) (hsample : i.sample? = some p) :
    RowCarries i.rowMode p i := by
  refine ⟨hwf, ?_, hsample⟩
  have has_row : i.sampleRow ≠ none := by simp [← sample?_eq_none_iff, hsample]
  obtain ⟨r, hr⟩ := Option.ne_none_iff_exists'.1 has_row
  simp [Instr.rowMode, hr]

/-- Settles O30: a select code's row is read off the decode table; a sample's word unpacks to the sample, and the one
well-formed row of the mode that carries it is the dispatcher's, which the decoder selects. -/
theorem decodeOfEncodeIsTheInstruction : Obligations.DecodeOfEncodeIsTheInstruction := by
  intro i hwf
  cases hcode : i.selectCode with
  | some ce =>
    rw [encode_of_selectCode hcode]
    refine ⟨?_, by simp⟩
    rintro _ ⟨⟩
    rw [decode, decodeSelectCode_of_selectCode hcode]
  | none =>
    cases hsample : i.sample? with
    | some p =>
      have has_row : i.sampleRow ≠ none := by simp [← sample?_eq_none_iff, hsample]
      rw [encode_of_sample? hsample]
      refine ⟨?_, by simp [has_row]⟩
      rintro _ ⟨⟩
      rw [decode_pack (rowMode_ne_readSettle i) 0, ← (carries_rowMode hwf hsample).eq_dispatch 0]
    | none =>
      rw [encode_of_none hcode hsample]
      refine ⟨by simp, by simp [sample?_eq_none_iff.1 hsample]⟩

/-- Settles O31: a word of either format is a code or a packed sample, and its row is that of the code, or the
dispatcher's row, which carries the sample. -/
theorem encodeOfDecodeIsTheWord : Obligations.EncodeOfDecodeIsTheWord := by
  have decode_sample {m : Mode} (hm : m ≠ .readSettle) (v : SampleWord) :
      decode m (.sample20 v) = .ok (dispatch m 0 (Sample.unpack v)) := by
    rw [← decode_pack hm, pack_unpack]
  refine ⟨fun m ce => ⟨decodeSelectCode ce, by rw [decode]⟩, fun m v hm => ⟨_, decode_sample hm v⟩, fun v => rfl, ?_⟩
  intro m w i hdecode
  cases w with
  | ce5 ce =>
    rw [decode] at hdecode
    cases hdecode
    exact ⟨decodeSelectCode_wf ce, encode_of_selectCode (selectCode_decodeSelectCode ce), by simp⟩
  | sample20 v =>
    have hm : m ≠ .readSettle := by
      rintro rfl
      cases hdecode
    rw [decode_sample hm v] at hdecode
    cases hdecode
    obtain ⟨hwf, hmode, hsample⟩ := dispatch_carries hm 0 (Sample.unpack v)
    exact ⟨hwf, by rw [encode_of_sample? hsample, pack_unpack], fun _ _ => hmode⟩

/-- A 20-bit word is the sum of its four fields, each at its place (30_encoding.md R61). -/
theorem toNat_eq_sum_unpack (w : SampleWord) :
    w.toNat = (Sample.unpack w).addr.toNat + (Sample.unpack w).ce.toNat * 1024 +
      (Sample.unpack w).we.toNat * 32768 + (Sample.unpack w).data.toNat * 65536 := by
  have strobe : (Sample.unpack w).we.toNat = w.toNat / 32768 % 2 := by
    simp [Sample.unpack, BitVec.getLsbD, Nat.toNat_testBit]
  have hlt : w.toNat < 1048576 := w.isLt
  rw [strobe]
  simp only [Sample.unpack, BitVec.extractLsb'_toNat, Nat.shiftRight_eq_div_pow]
  omega

/-- Settles O33: the packed word is the sum of its own fields, and they are the sample's. -/
theorem sampleWordIsTheSumOfItsFields : Obligations.SampleWordIsTheSumOfItsFields := by
  intro p
  refine ⟨?_, unpack_pack p⟩
  have sum := toNat_eq_sum_unpack p.pack
  rwa [unpack_pack] at sum

/-- Settles O32: the words are fixed, and the decoder computes each row. -/
theorem specExampleWordsDecodeAsTheSpecSays : Obligations.SpecExampleWordsDecodeAsTheSpecSays :=
  ⟨rfl, rfl, rfl, rfl, rfl, rfl, rfl, rfl⟩

end Sys2Proof.Machine
end

section
/-! PROOFS. The statements on the Decoder's table, the Bus Port's and the Store's primitives (40_bus_port.md,
41_chip_select_decoder.md, 42_memory_store.md), and that no operation stops. -/

namespace Sys2Proof.Machine

/-- Settles O2: each row is a look-up of its code, whose entry the Decoder computes. -/
theorem decodeTableRowsAnswerTheirEntry : Obligations.DecodeTableRowsAnswerTheirEntry := by
  intro s
  and_intros <;> rfl

/-- The Decoder names a bank exactly for the bank's own code (41_chip_select_decoder.md R90, R91). -/
theorem selectBank_eq_some_iff {ce : SelectCode} {b : Bank} : selectBank ce = some b ↔ ce = bankCode b := by
  revert ce b
  decide

/-- A bank's own code is the one whose only low line is the bank's (30_encoding.md R64). -/
theorem eq_bankCode_iff {ce : SelectCode} {b : Bank} :
    ce = bankCode b ↔ ∀ i : Bank, ce.getLsbD i.val = false ↔ i = b := by
  revert ce b
  decide

/-- Settles O3: the code of a bank is the code with that one line low. -/
theorem decodeSelectsTheOneLowLine : Obligations.DecodeSelectsTheOneLowLine :=
  fun _ _ => selectBank_eq_some_iff.trans eq_bankCode_iff

/-- SAMPLE hands back the sample it uses up (40_bus_port.md R80; log 4). -/
theorem exec_sample_eq (s : State) : exec .sample s = .next (setReply (.sample (busSample s)) (passSample s)) := rfl

/-- The cell address is the raw address modulo 1024 (30_encoding.md R62; log 19). -/
theorem maskAddr_eq_mod (raw : Nat) : maskAddr raw = BitVec.ofNat 10 (raw % 1024) := by
  apply BitVec.eq_of_toNat_eq
  simp [maskAddr]

/-- Settles O4: the listed pin levels are the sample, and using them up drops the head of the agenda. -/
theorem sampleReadsThePinsAndMasksTheAddress : Obligations.SampleReadsThePinsAndMasksTheAddress := by
  intro s pins rest hagenda
  rw [exec_sample_eq, busSample_of_poll hagenda, passSample_of_poll hagenda, Pins.toSample, maskAddr_eq_mod]
  rfl

/-- Where no pin levels are listed next, a Sample takes the next free ones (40_bus_port.md R81; log 1). -/
theorem busSample_of_unlisted {s : State} (h : ∀ (pins : Pins) (rest : List Input), s.agenda ≠ .poll pins :: rest) :
    busSample s = (freePins s.freeSamples).toSample := by
  unfold busSample
  split
  case h_1 p rest hagenda => exact absurd hagenda (h p rest)
  case h_2 => rfl

/-- Where no pin levels are listed next, using up a sample advances the count of free ones (log 1). -/
theorem passSample_of_unlisted {s : State} (h : ∀ (pins : Pins) (rest : List Input), s.agenda ≠ .poll pins :: rest) :
    passSample s = { s with freeSamples := s.freeSamples + 1 } := by
  unfold passSample
  split
  case h_1 p rest hagenda => exact absurd hagenda (h p rest)
  case h_2 => rfl

/-- Settles O5: the sample is that of the next free pin levels, and only their count advances. -/
theorem unlistedSampleIsAnyLevels : Obligations.UnlistedSampleIsAnyLevels := by
  intro s hagenda
  rw [exec_sample_eq, busSample_of_unlisted hagenda, passSample_of_unlisted hagenda, Pins.toSample, maskAddr_eq_mod]
  rfl

/-- DRIVE is the named update of the latch (40_bus_port.md R84). -/
theorem exec_drive_eq (v : Nibble) (s : State) : exec (.drive v) s = .next (drive v s) := rfl

/-- Driving the nibble the latch holds already changes nothing (40_bus_port.md R84). -/
theorem drive_eq_self_of_out {v : Nibble} {s : State} (h : s.out = v) : drive v s = s := by
  subst h
  rfl

/-- Settles O7: DRIVE is `drive`, an update of the latch alone, and the direction decides whether the lines show it. -/
theorem driveWritesTheLatchOnly : Obligations.DriveWritesTheLatchOnly := by
  intro v s
  refine ⟨exec_drive_eq v s, ?_, fun hout => ?_⟩
  · simp only [lines]
    cases s.dir <;> rfl
  · rw [exec_drive_eq, drive_eq_self_of_out hout]

/-- A cell the Store does not list reads as its initial fill (42_memory_store.md R104; log 7). -/
theorem readCell_of_lookup_none {b : Bank} {a : Addr} {m : Memory} (h : Memory.lookup (cellKey b a) m = none) :
    Memory.readCell b a m = initialCell b a := by
  rw [Memory.readCell, h]

/-- A cell the Store lists reads as the low nibble of its container (20_memory.md R43). -/
theorem readCell_of_lookup_some {b : Bank} {a : Addr} {m : Memory} {c : Container}
    (h : Memory.lookup (cellKey b a) m = some c) : Memory.readCell b a m = c.setWidth 4 := by
  rw [Memory.readCell, h]

/-- Settles O9: the result goes to the reply, on which no read depends. -/
theorem memReadHandsBackTheCellAndWritesNothing : Obligations.MemReadHandsBackTheCellAndWritesNothing := by
  intro b a s
  exact ⟨rfl, memRead_congr rfl b a, readCell_of_lookup_none⟩

/-- Settles O27: each meaning is one update of the state. -/
theorem everyOperationCompletes : Obligations.EveryOperationCompletes := by
  intro i s
  cases i <;> exact ⟨_, rfl⟩

end Sys2Proof.Machine
end

section
/-! PROOFS. The statements on the canonical Store (42_memory_store.md; log 7): its list is determined by what the cells
read as. -/

namespace Sys2Proof.Machine

/-- The order in which the canonical Store lists its containers (log 7). -/
def ListedBefore (e f : Host.Cell) : Prop := e.1 < f.1

theorem pairwise_listedBefore_of_wf {m : Memory} (h : Memory.wf m = true) : m.Pairwise ListedBefore := by
  induction m with
  | nil => exact .nil
  | cons e rest ih =>
    obtain ⟨-, hlt, hrest⟩ := (wf_cons e rest).1 h
    exact .cons hlt (ih hrest)

theorem entryWf_of_mem {e : Host.Cell} {m : Memory} (h : Memory.wf m = true) (he : e ∈ m) : entryWf e = true := by
  induction m with
  | nil => cases he
  | cons f rest ih =>
    obtain ⟨hf, -, hrest⟩ := (wf_cons f rest).1 h
    cases he with
    | head => exact hf
    | tail _ he => exact ih hrest he

theorem mem_of_lookup {k : Nat} {c : Container} {m : Memory} (h : Memory.lookup k m = some c) : (k, c) ∈ m := by
  induction m with
  | nil => cases h
  | cons e rest ih =>
    obtain ⟨j, c'⟩ := e
    unfold Memory.lookup at h
    split at h
    case isTrue hk =>
      cases h
      exact hk ▸ List.mem_cons_self
    case isFalse hk => exact List.mem_cons_of_mem _ (ih h)

/-- The canonical Store lists a number once, so an entry is what the look-up of its number finds. -/
theorem lookup_of_mem {k : Nat} {c : Container} {m : Memory} (h : Memory.wf m = true) (he : (k, c) ∈ m) :
    Memory.lookup k m = some c := by
  induction m with
  | nil => cases he
  | cons f rest ih =>
    obtain ⟨j, c'⟩ := f
    obtain ⟨-, hlt, hrest⟩ := (wf_cons _ rest).1 h
    cases he with
    | head => simp [Memory.lookup]
    | tail _ he =>
      have hk : k ≠ j := (hlt _ he).ne'
      simp [Memory.lookup, hk, ih hrest he]

/-- A container whose high nibble is 0 is given by its low nibble (20_memory.md R43). -/
theorem setWidth_low_nibble {c : Container} (h : c.toNat < 16) : (c.setWidth 4).setWidth 8 = c := by
  apply BitVec.eq_of_toNat_eq
  simp only [BitVec.toNat_setWidth]
  omega

/-- The entries of a canonical Store are the cells that do not read as their initial fill, each with its nibble. -/
theorem mem_iff_of_wf {m : Memory} (h : Memory.wf m = true) {k : Nat} {c : Container} :
    (k, c) ∈ m ↔ k < 5120 ∧ Memory.readCell (keyBank k) (keyAddr k) m ≠ initialCell (keyBank k) (keyAddr k) ∧
      c = (Memory.readCell (keyBank k) (keyAddr k) m).setWidth 8 := by
  have listed {c' : Container} (he : (k, c') ∈ m) :
      k < 5120 ∧ c'.toNat < 16 ∧ c'.setWidth 4 ≠ initialCell (keyBank k) (keyAddr k) ∧
        Memory.readCell (keyBank k) (keyAddr k) m = c'.setWidth 4 := by
    have hwf := entryWf_of_mem h he
    simp only [entryWf, Bool.and_eq_true, decide_eq_true_eq] at hwf
    obtain ⟨⟨hk, hlow⟩, hfill⟩ := hwf
    exact ⟨hk, hlow, hfill, readCell_of_lookup_some (by rw [cellKey_keyBank_keyAddr hk, lookup_of_mem h he])⟩
  constructor
  · intro he
    obtain ⟨hk, hlow, hfill, hread⟩ := listed he
    rw [hread]
    exact ⟨hk, hfill, (setWidth_low_nibble hlow).symm⟩
  · rintro ⟨hk, hfill, rfl⟩
    obtain hnone | ⟨c, hsome⟩ := (Memory.lookup k m).eq_none_or_eq_some
    · exact absurd (readCell_of_lookup_none (by rw [cellKey_keyBank_keyAddr hk, hnone])) hfill
    · have he := mem_of_lookup hsome
      obtain ⟨-, hlow, -, hread⟩ := listed he
      rwa [hread, setWidth_low_nibble hlow]

/-- Settles O12: both lists rise, and what the cells read as says which entries they have. -/
theorem canonicalStoresWithEqualCellsAreEqual : Obligations.CanonicalStoresWithEqualCellsAreEqual := by
  intro m m' hwf hwf' hcells
  have irrefl : Std.Irrefl ListedBefore := ⟨fun e => Nat.lt_irrefl e.1⟩
  have antisymm : Std.Antisymm ListedBefore := ⟨fun e f hef hfe => absurd hef (Nat.lt_asymm hfe)⟩
  refine (pairwise_listedBefore_of_wf hwf).eq_of_mem_iff (pairwise_listedBefore_of_wf hwf') fun ⟨k, c⟩ => ?_
  rw [mem_iff_of_wf hwf, mem_iff_of_wf hwf', hcells]

/-- In a canonical Store, writing the nibble a cell holds gives back the list itself (42_memory_store.md R102). -/
theorem writeCell_readCell {m : Memory} (h : Memory.wf m = true) (b : Bank) (a : Addr) :
    Memory.writeCell b a (Memory.readCell b a m) m = m := by
  refine canonicalStoresWithEqualCellsAreEqual _ _ (writeCell_wf b a _ h) h fun b' a' => ?_
  rw [readCell_writeCell]
  split
  case isTrue hcell => rw [hcell.1, hcell.2]
  case isFalse => rfl

/-- Settles O11: the write leaves the list (`writeCell_readCell`), and MEM_WRITE touches nothing else. -/
theorem writingTheHeldValueChangesNothing : Obligations.WritingTheHeldValueChangesNothing := by
  rintro b a _ s hwf rfl
  have store_kept : Memory.writeCell b a (memRead b a s) s.mem = s.mem := writeCell_readCell hwf b a
  show Host.Outcome.next (memWrite b a (memRead b a s) s) = .next s
  rw [memWrite, store_kept]

end Sys2Proof.Machine
end

section
/-! PROOFS. The engine's remaining rows (43_bus_engine.md R115, R121, R122, R125) on their own. -/

namespace Sys2Proof.Machine

/-- Settles O18: the low strobe selects the row, which writes the direction and the mode alone. -/
theorem readToWriteTurnsToInputAtOnce : Obligations.ReadToWriteTurnsToInputAtOnce := by
  intro p s hce hwe
  exact ⟨by simp [decodeSelRead_pack, hce, hwe], exec_readToWrite_eq p s⟩

/-- SETTLE_RELEASE as one update of the state (43_bus_engine.md R121). -/
theorem exec_settleRelease_eq (s : State) : exec .settleRelease s = .next { s with dir := .input, mode := .idle } := rfl

/-- Settles O21: a count of 0 selects the row, which writes the direction and the mode alone. -/
theorem settleReleaseReturnsToIdle : Obligations.SettleReleaseReturnsToIdle := by
  intro s hsettle
  exact ⟨by rw [decodeReadSettle, if_pos hsettle], exec_settleRelease_eq s⟩

/-- Settles O25: after the commit the code alone decides, and the row is the identity. -/
theorem doneWaitIgnoresTheStrobe : Obligations.DoneWaitIgnoresTheStrobe := by
  intro p s hce
  exact ⟨by rw [decodeSelWriteDone_pack, if_neg hce], rfl⟩

/-- WRITE_DESELECT without the tie's commit as one update of the state (43_bus_engine.md R122). -/
theorem exec_writeDeselect_of_no_tie {p : Sample} (h : commitsOnTie p = false) (s : State) :
    exec (.writeDeselect p) s = .next { s with
      bank := none
      mode := .idle
      observer := heard [.deselect (latchedBank s)] s.observer } := by
  rw [exec_writeDeselect_eq, h]
  rfl

/-- WRITE_DESELECT with the tie's commit as one update of the state, with its two events in order
(43_bus_engine.md R122; log 6). -/
theorem exec_writeDeselect_of_tie {p : Sample} (h : commitsOnTie p = true) (s : State) :
    exec (.writeDeselect p) s = .next { s with
      bank := none
      mode := .idle
      mem := (commit p s).mem
      observer := heard [.write (latchedBank s) p.addr p.data, .deselect (latchedBank s)] s.observer } := by
  have events := heard_heard [.write (latchedBank s) p.addr p.data] [.deselect (latchedBank s)] s.observer
  rw [List.singleton_append] at events
  rw [exec_writeDeselect_eq, h, ← events]
  rfl

/-- Settles O22: the deselect test comes first; whether the row commits is the tie test, false with the strobe low and
COMMIT_ON_TIE with it high. -/
theorem writeDeselectCommitsOnlyOnTheTie : Obligations.WriteDeselectCommitsOnlyOnTheTie := by
  intro p s b hce hbank
  have latched : latchedBank s = b := latchedBank_of_some hbank
  refine ⟨by rw [decodeSelWrite_pack, if_pos hce], fun hwe => ?_, fun hwe => ?_⟩
  · rw [exec_writeDeselect_of_no_tie (by simp [commitsOnTie, hwe]), latched]
  · have tie : commitsOnTie p = Config.commitOnTie := by simp [commitsOnTie, hwe]
    cases hconfig : Config.commitOnTie with
    | false =>
      rw [exec_writeDeselect_of_no_tie (tie.trans hconfig), latched]
      exact ⟨_, rfl, fun b' a' => by simp [memRead], by simp⟩
    | true =>
      rw [exec_writeDeselect_of_tie (tie.trans hconfig), latched]
      refine ⟨_, rfl, fun b' a' => ?_, by simp⟩
      refine (memRead_congr (s := commit p s) rfl b' a').trans ?_
      simp [memRead_commit, latched]

end Sys2Proof.Machine
end

section
/-! PROOFS. What a step can do, said once, and the statements on one step (43_bus_engine.md section 1; log 1, 2, 3, 11,
12). -/

namespace Sys2Proof.Machine

/-- Settles O36: a step runs an operation, and each one completes (O27), or it is the outside's move. -/
theorem everyStepAnswersANextState : Obligations.EveryStepAnswersANextState := by
  intro s
  cases hturn : turn s with
  | run i t =>
    rw [step_of_run hturn]
    exact everyOperationCompletes i t
  | outside t => exact ⟨t, step_of_outside hturn⟩

/-- The state the row of a poll runs from: the sample is used up in every mode but ReadSettle, which takes none
(43_bus_engine.md R119). -/
def polled (s : State) : State := if s.mode = .readSettle then s else passSample s

theorem polled_of_readSettle {s : State} (h : s.mode = .readSettle) : polled s = s := if_pos h

theorem polled_of_ne_readSettle {s : State} (h : s.mode ≠ .readSettle) : polled s = passSample s := if_neg h

/-- A poll uses up the listed sample and nothing else, and not even that in ReadSettle. -/
theorem polled_eq_or (s : State) :
    polled s = s ∨ (∃ p rest, s.agenda = .poll p :: rest ∧ polled s = withAgenda rest s) ∨
      polled s = { s with freeSamples := s.freeSamples + 1 } := by
  by_cases hmode : s.mode = .readSettle
  · exact .inl (polled_of_readSettle hmode)
  · rw [polled_of_ne_readSettle hmode]
    by_cases hlisted : ∃ p rest, s.agenda = .poll p :: rest
    · obtain ⟨p, rest, hagenda⟩ := hlisted
      exact .inr (.inl ⟨p, rest, hagenda, passSample_of_poll hagenda⟩)
    · push Not at hlisted
      exact .inr (.inr (passSample_of_unlisted hlisted))

@[simp] theorem polled_mode (s : State) : (polled s).mode = s.mode := by
  unfold polled; split <;> simp
@[simp] theorem polled_bank (s : State) : (polled s).bank = s.bank := by
  unfold polled; split <;> simp
@[simp] theorem polled_settle (s : State) : (polled s).settle = s.settle := by
  unfold polled; split <;> simp
@[simp] theorem polled_dir (s : State) : (polled s).dir = s.dir := by
  unfold polled; split <;> simp
@[simp] theorem polled_out (s : State) : (polled s).out = s.out := by
  unfold polled; split <;> simp

/-- A poll of the engine runs the dispatcher's row, in every mode (43_bus_engine.md R110). -/
theorem step_of_engineNext {s : State} (hnext : engineNext s = true) :
    step s = exec (dispatch s.mode s.settle (busSample s)) (polled s) := by
  cases hmode : s.mode with
  | idle =>
    rw [step_of_sampled (select := decodeIdle) hnext (by simp [enginePoll, hmode]), decodeIdle_pack s.settle,
      polled_of_ne_readSettle (by simp [hmode])]
  | selRead | selWrite | selWriteDone =>
    rw [step_of_selectedMode (by simp [selectedMode, hmode]) hnext, hmode, polled_of_ne_readSettle (by simp [hmode])]
  | readSettle => rw [step_of_readSettle hmode hnext, decodeReadSettle_eq_dispatch, polled_of_readSettle hmode]

/-- What a poll of the engine can do with a sample, mode by mode (43_bus_engine.md R111 to R126). -/
inductive EngineMove (p : Sample) (s : State) : State → Prop where
  /-- The rows that change nothing: IDLE_DESELECTED, IDLE_INVALID, WRITE_HOLD and DONE_WAIT. -/
  | unchanged (hmode : s.mode ≠ .readSettle) : EngineMove p s s
  | enterRead (b : Bank) (hmode : s.mode = .idle) : EngineMove p s { s with
      bank := some b
      dir := .output
      out := memRead b p.addr s
      mode := .selRead
      observer := heard [.select b .read, .read b p.addr (memRead b p.addr s)] s.observer }
  | enterWrite (b : Bank) (hmode : s.mode = .idle) : EngineMove p s { s with
      bank := some b
      dir := .input
      mode := .selWrite
      observer := heard [.select b .write] s.observer }
  | serveRead (hmode : s.mode = .selRead) : EngineMove p s { s with
      out := servedCell p s
      observer := heard [.read (latchedBank s) p.addr (servedCell p s)] s.observer }
  | readToWrite (hmode : s.mode = .selRead) : EngineMove p s { s with dir := .input, mode := .selWrite }
  | readDeselect (hmode : s.mode = .selRead) : EngineMove p s { s with
      bank := none
      settle := Config.settlePolls
      mode := .readSettle
      observer := heard [.deselect (latchedBank s)] s.observer }
  | settleCount (n : Nat) (hmode : s.mode = .readSettle) (hsettle : s.settle = n + 1) :
      EngineMove p s { s with settle := n }
  | settleRelease (hmode : s.mode = .readSettle) (hsettle : s.settle = 0) :
      EngineMove p s { s with dir := .input, mode := .idle }
  | writeDeselect (hmode : s.mode = .selWrite) : EngineMove p s (leaveWrite s)
  | tiedDeselect (hmode : s.mode = .selWrite) : EngineMove p s (leaveWrite (commit p s))
  | writeCommit (hmode : s.mode = .selWrite) : EngineMove p s (setMode .selWriteDone (commit p s))
  | doneDeselect (hmode : s.mode = .selWriteDone) : EngineMove p s (leaveWrite s)

/-- In Idle a bank's own code enters the bank, and every other code changes nothing (43_bus_engine.md R111 to R113). -/
theorem engineMove_of_idle {p : Sample} {s t : State} {settle : Nat} (hmode : s.mode = .idle)
    (hexec : exec (dispatch .idle settle p) s = .next t) : EngineMove p s t := by
  by_cases hbank : ∃ b : Bank, p.ce = bankCode b
  · obtain ⟨b, hce⟩ := hbank
    rw [dispatch_idle_of_bankCode settle hce] at hexec
    split at hexec
    case isTrue =>
      rw [exec_readEntry, enterRead_eq] at hexec
      cases hexec
      exact .enterRead b hmode
    case isFalse =>
      rw [exec_writeEntry, enterWrite_eq] at hexec
      cases hexec
      exact .enterWrite b hmode
  · rw [dispatch_idle_of_no_bank settle (not_exists.1 hbank)] at hexec
    split at hexec <;> cases hexec <;> exact .unchanged (by simp [hmode])

/-- The row the dispatcher selects makes an engine move. -/
theorem engineMove_of_exec {p : Sample} {s t : State} (hexec : exec (dispatch s.mode s.settle p) s = .next t) :
    EngineMove p s t := by
  cases hmode : s.mode with
  | idle => exact engineMove_of_idle hmode (hmode ▸ hexec)
  | selRead =>
    rw [hmode, dispatch] at hexec
    split at hexec
    case isTrue => cases hexec; exact .readDeselect hmode
    case isFalse => split at hexec <;> cases hexec <;> [exact .readToWrite hmode; exact .serveRead hmode]
  | selWrite =>
    rw [hmode, dispatch] at hexec
    split at hexec
    case isTrue =>
      rw [exec_writeDeselect_eq] at hexec
      split at hexec <;> cases hexec <;> [exact .tiedDeselect hmode; exact .writeDeselect hmode]
    case isFalse =>
      split at hexec <;> cases hexec <;> [exact .unchanged (by simp [hmode]); exact .writeCommit hmode]
  | selWriteDone =>
    rw [hmode, dispatch] at hexec
    split at hexec <;> cases hexec <;> [exact .doneDeselect hmode; exact .unchanged (by simp [hmode])]
  | readSettle =>
    rw [hmode, ← decodeReadSettle_eq_dispatch] at hexec
    cases hsettle : s.settle with
    | zero => rw [hsettle] at hexec; cases hexec; exact .settleRelease hmode hsettle
    | succ n =>
      rw [(settleCountTakesOneOff s n hsettle).1, (settleCountTakesOneOff s n hsettle).2] at hexec
      cases hexec
      exact .settleCount n hmode hsettle

/-- A look-up's row of the decode table hands back the code's entry (41_chip_select_decoder.md R90). -/
theorem exec_decodeSelectCode (ce : SelectCode) (s : State) :
    exec (decodeSelectCode ce) s = .next (setReply (.bank (selectBank ce)) s) := by
  have row {i : Instr} (h : i.selectCode = some ce) : exec i s = .next (setReply (.bank (selectBank ce)) s) := by
    cases i <;> cases h <;> rfl
  exact row (selectCode_decodeSelectCode ce)

/-- What a step can do: an engine move from the polled state, or one of the three moves of the outside (log 1, 3, 11,
12). -/
inductive StepMove (s : State) : State → Prop where
  | engine {t : State} (hnext : engineNext s = true) (hmove : EngineMove (busSample s) (polled s) t) : StepMove s t
  | lookup {ce : SelectCode} {rest : List Input} (hagenda : s.agenda = .lookup ce :: rest) :
      StepMove s (setReply (.bank (selectBank ce)) (withAgenda rest s))
  | observe {b : Bank} {a : Addr} {rest : List Input} (hagenda : s.agenda = .observe b a :: rest) :
      StepMove s (observe b a (withAgenda rest s))
  | restart {rest : List Input} (hagenda : s.agenda = .restart :: rest) : StepMove s (restart (withAgenda rest s))

/-- A poll's step makes an engine move. -/
theorem engineMove_of_step {s t : State} (hnext : engineNext s = true) (hstep : step s = .next t) :
    EngineMove (busSample s) (polled s) t := by
  rw [step_of_engineNext hnext] at hstep
  exact engineMove_of_exec (by rwa [polled_mode, polled_settle])

/-- Every step is one of the moves, told apart by the head of the agenda. -/
theorem stepMove_of_step {s t : State} (hstep : step s = .next t) : StepMove s t := by
  cases hagenda : s.agenda with
  | nil =>
    have hnext := engineNext_iff.2 (.inl hagenda)
    exact .engine hnext (engineMove_of_step hnext hstep)
  | cons input rest =>
    cases input with
    | poll p =>
      have hnext := engineNext_iff.2 (.inr ⟨p, rest, hagenda⟩)
      exact .engine hnext (engineMove_of_step hnext hstep)
    | lookup ce =>
      rw [step_of_run (turn_of_lookup hagenda), exec_decodeSelectCode] at hstep
      cases hstep
      exact .lookup hagenda
    | observe b a =>
      rw [step_of_outside (turn_of_observe hagenda)] at hstep
      cases hstep
      exact .observe hagenda
    | restart =>
      rw [step_of_outside (turn_of_restart hagenda)] at hstep
      cases hstep
      exact .restart hagenda

/-- On the engine's turn the step runs the operation that the mode and the sample decode to (30_encoding.md R67). -/
theorem step_of_decode {s : State} {i : Instr} (hnext : engineNext s = true)
    (hdecode : decode s.mode (.sample20 (busSample s).pack) = .ok i) : step s = exec i (passSample s) := by
  have hmode : s.mode ≠ .readSettle := by
    intro hmode
    rw [hmode] at hdecode
    cases hdecode
  rw [decode_pack hmode s.settle] at hdecode
  cases hdecode
  rw [step_of_engineNext hnext, polled_of_ne_readSettle hmode]

/-- Settles O34: the four kinds of turn that run an operation. -/
theorem stepRunsTheSelectedOperation : Obligations.StepRunsTheSelectedOperation := by
  refine ⟨fun s pins rest i hagenda hdecode => ?_, fun s i hagenda hdecode => ?_,
    fun s hmode hnext => step_of_readSettle hmode hnext, fun s ce rest i hagenda hdecode => ?_⟩
  · rw [step_of_decode (engineNext_iff.2 (.inr ⟨pins, rest, hagenda⟩)) (by rwa [busSample_of_poll hagenda]),
      passSample_of_poll hagenda, withAgenda]
  · have unlisted : ∀ (pins : Pins) (rest : List Input), s.agenda ≠ .poll pins :: rest := by simp [hagenda]
    rw [step_of_decode (engineNext_iff.2 (.inl hagenda)) (by rwa [busSample_of_unlisted unlisted]),
      passSample_of_empty hagenda]
  · rw [decode] at hdecode
    cases hdecode
    rw [step_of_run (turn_of_lookup hagenda), withAgenda]

/-- Up to one byte the word is a select code (30_encoding.md R72; log 2). -/
theorem decodeTableWord_of_narrow {nbits w : Nat} {i : Instr} (hbits : nbits ≤ 8)
    (h : decodeTableWord nbits w = some i) : i = decodeSelectCode (BitVec.ofNat 5 w) := by
  simp only [decodeTableWord, busWordOfBits, hbits, if_true] at h
  split_ifs at h
  cases h
  rfl

/-- Above one byte the word is a sample's, read in mode Idle (30_encoding.md R72; log 2). -/
theorem decodeTableWord_of_wide {nbits w : Nat} {i : Instr} (hbits : ¬nbits ≤ 8)
    (h : decodeTableWord nbits w = some i) : i = decodeIdle (BitVec.ofNat 20 w) := by
  simp only [decodeTableWord, busWordOfBits, hbits, if_false] at h
  split_ifs at h
  cases h
  rfl

/-- The pin levels that show a sample are sampled as that sample (30_encoding.md R62). -/
theorem toSample_of_fields (p : Sample) : Pins.toSample ⟨p.addr.toNat, p.ce, p.we, p.data⟩ = p := by
  simp [Pins.toSample, maskAddr]

/-- Settles O35: a select code's word is placed as a look-up, which runs its row; any other as the pin levels of its
sample, which a poll of mode Idle packs to the word again. -/
theorem placedWordRunsInTheNextStep : Obligations.PlacedWordRunsInTheNextStep := by
  intro s nbits w i h
  by_cases hbits : nbits ≤ 8
  · have hagenda : (s.withFetchWord nbits w).agenda = .lookup (BitVec.ofNat 5 w) :: s.agenda := by
      simp [State.withFetchWord, placeWord, inputOfWord, hbits]
    rw [step_of_run (turn_of_lookup hagenda), decodeTableWord_of_narrow hbits h]
    rfl
  · have hagenda : (s.withFetchWord nbits w).agenda =
        .poll ⟨(Sample.unpack (BitVec.ofNat 20 w)).addr.toNat, (Sample.unpack (BitVec.ofNat 20 w)).ce,
          (Sample.unpack (BitVec.ofNat 20 w)).we, (Sample.unpack (BitVec.ofNat 20 w)).data⟩ :: s.agenda := by
      simp [State.withFetchWord, placeWord, inputOfWord, hbits]
    have hmode : (s.withFetchWord nbits w).mode = .idle := by simp [State.withFetchWord, placeWord, hbits]
    rw [step_of_sampled (select := decodeIdle) (engineNext_iff.2 (.inr ⟨_, _, hagenda⟩)) (by simp [enginePoll, hmode]),
      busSample_of_poll hagenda, toSample_of_fields, pack_unpack, passSample_of_poll hagenda,
      decodeTableWord_of_wide hbits h]
    rfl

/-- Settles O37: the read is the outside's move, an update of the Observer and the count of free values. -/
theorem observerReadAddsOneReading : Obligations.ObserverReadAddsOneReading := by
  intro s b a rest hagenda
  exact step_of_outside (turn_of_observe hagenda)

/-- Settles O38: the restart is the outside's move, and an empty Store reads as the initial fill. -/
theorem restartRunsTheResetSequence : Obligations.RestartRunsTheResetSequence := by
  intro s rest hagenda
  exact ⟨_, step_of_outside (turn_of_restart hagenda), rfl, readCell_nil⟩

end Sys2Proof.Machine
end

section
/-! PROOFS. The statements on invariants (10_state.md sections 5 and 6; log 7, 24): reset meets them and each move keeps
them. -/

namespace Sys2Proof.Machine

/-- The direction the invariants give a mode (10_state.md R28). -/
def modeDir : Mode → Dir
  | .selRead | .readSettle => .output
  | .idle | .selWrite | .selWriteDone => .input

/-- The four invariants as two equations: the mode gives the direction, and whether a bank is latched
(10_state.md R28). -/
theorem coherent_iff {s : State} : Coherent s ↔ s.dir = modeDir s.mode ∧ s.bank.isSome = selectedMode s.mode := by
  constructor
  · rintro ⟨idle, selRead, selWrite, readSettle⟩
    cases hmode : s.mode with
    | idle => simp [modeDir, selectedMode, idle hmode]
    | selRead =>
      obtain ⟨hdir, b, hbank⟩ := selRead hmode
      simp [modeDir, selectedMode, hdir, hbank]
    | selWrite =>
      obtain ⟨hdir, b, hbank⟩ := selWrite (.inl hmode)
      simp [modeDir, selectedMode, hdir, hbank]
    | selWriteDone =>
      obtain ⟨hdir, b, hbank⟩ := selWrite (.inr hmode)
      simp [modeDir, selectedMode, hdir, hbank]
    | readSettle => simp [modeDir, selectedMode, readSettle hmode]
  · rintro ⟨hdir, hbank⟩
    constructor
    · intro hmode
      simpa [hmode, modeDir, selectedMode] using And.intro hdir hbank
    · intro hmode
      simpa [hmode, modeDir, selectedMode, Option.isSome_iff_exists] using And.intro hdir hbank
    · rintro (hmode | hmode)
      · simpa [hmode, modeDir, selectedMode, Option.isSome_iff_exists] using And.intro hdir hbank
      · simpa [hmode, modeDir, selectedMode, Option.isSome_iff_exists] using And.intro hdir hbank
    · intro hmode
      simpa [hmode, modeDir, selectedMode] using And.intro hdir hbank

/-- The invariants speak of the mode, the direction and the bank alone. -/
theorem Coherent.congr {s t : State} (hs : Coherent s) (hmode : t.mode = s.mode) (hdir : t.dir = s.dir)
    (hbank : t.bank = s.bank) : Coherent t := by
  rw [coherent_iff] at hs ⊢
  rwa [hmode, hdir, hbank]

theorem leaveWrite_coherent {s : State} (hdir : s.dir = .input) : Coherent (leaveWrite s) := by
  rw [coherent_iff, leaveWrite_eq]
  exact ⟨hdir, rfl⟩

/-- Every move of the engine keeps the mode invariants (10_state.md R28). -/
theorem EngineMove.coherent {p : Sample} {s t : State} (hmove : EngineMove p s t) (hs : Coherent s) : Coherent t := by
  obtain ⟨hdir, hbank⟩ := coherent_iff.1 hs
  cases hmove with
  | unchanged => exact hs
  | enterRead => exact coherent_iff.2 ⟨rfl, rfl⟩
  | enterWrite => exact coherent_iff.2 ⟨rfl, rfl⟩
  | serveRead => exact hs.congr rfl rfl rfl
  | readToWrite hmode => exact coherent_iff.2 ⟨rfl, by rw [hbank, hmode]; rfl⟩
  | readDeselect hmode => exact coherent_iff.2 ⟨by rw [hdir, hmode]; rfl, rfl⟩
  | settleCount => exact hs.congr rfl rfl rfl
  | settleRelease hmode => exact coherent_iff.2 ⟨rfl, by rw [hbank, hmode]; rfl⟩
  | writeDeselect hmode | doneDeselect hmode => exact leaveWrite_coherent (by rw [hdir, hmode]; rfl)
  | tiedDeselect hmode => exact leaveWrite_coherent (by rw [commit_eq, hdir, hmode]; rfl)
  | writeCommit hmode =>
    refine coherent_iff.2 ⟨?_, ?_⟩
    · rw [setMode_dir, commit_eq, hdir, hmode]
      rfl
    · rw [setMode_bank, commit_eq, hbank, hmode]
      rfl

/-- Settles O41: every move keeps the two equations; a look-up and an Observer read touch none of the three fields, and
a restart is Idle with Input and no bank. -/
theorem everyStepKeepsTheModeInvariants : Obligations.EveryStepKeepsTheModeInvariants := by
  intro s t hs hstep
  cases stepMove_of_step hstep with
  | engine _ hmove => exact hmove.coherent (hs.congr (polled_mode s) (polled_dir s) (polled_bank s))
  | lookup => exact hs.congr rfl rfl rfl
  | observe => exact hs.congr rfl rfl rfl
  | restart => exact coherent_iff.2 ⟨rfl, rfl⟩

/-- Settles O45: the mode gives the direction, and the direction says whether the latch is on the lines. -/
theorem linesAreDrivenExactlyInReadAndSettle : Obligations.LinesAreDrivenExactlyInReadAndSettle := by
  intro s hs
  obtain ⟨hdir, -⟩ := coherent_iff.1 hs
  constructor
  · intro hdriven
    cases hmode : s.mode with
    | selRead => exact .inl rfl
    | readSettle => exact .inr rfl
    | idle | selWrite | selWriteDone => exact absurd (lines_of_input (by rw [hdir, hmode]; rfl)) hdriven
  · rintro (hmode | hmode) <;> exact lines_of_output (by rw [hdir, hmode]; rfl)

/-- A commit keeps the canonical form, and so does none. -/
theorem storeAfter_wf (c : Option (Bank × Addr × Nibble)) {m : Memory} (h : Memory.wf m = true) :
    Memory.wf (storeAfter c m) = true := by
  cases c with
  | none => exact h
  | some c => exact writeCell_wf _ _ _ h

/-- Settles O42: the Store after a step is the empty one of a restart, or the Store after the step's commit. -/
theorem everyStepKeepsTheStoreCanonical : Obligations.EveryStepKeepsTheStoreCanonical := by
  intro s t hwf hstep
  by_cases hrestart : ∃ rest, s.agenda = .restart :: rest
  · obtain ⟨rest, hagenda⟩ := hrestart
    rw [step_of_outside (turn_of_restart hagenda)] at hstep
    cases hstep
    exact reset_mem_wf
  · rw [step_mem hstep (not_exists.1 hrestart)]
    exact storeAfter_wf _ hwf

/-- A move from a mode other than ReadSettle that leaves the count keeps the bound: the count is 0 there. -/
theorem SettleBounded.of_settle_eq {s t : State} (hs : SettleBounded s) (hmode : s.mode ≠ .readSettle)
    (hsettle : t.settle = s.settle) : SettleBounded t :=
  ⟨hsettle ▸ hs.le_polls, fun _ => hsettle ▸ hs.zero_outside hmode⟩

/-- The bound speaks of the mode and the count alone. -/
theorem SettleBounded.congr {s t : State} (hs : SettleBounded s) (hmode : t.mode = s.mode)
    (hsettle : t.settle = s.settle) : SettleBounded t :=
  ⟨hsettle ▸ hs.le_polls, fun h => hsettle ▸ hs.zero_outside (hmode ▸ h)⟩

/-- Every move of the engine keeps the bound on the settle count: READ_DESELECT loads SETTLE_POLLS, and ReadSettle is
left at 0 (10_state.md R24). -/
theorem EngineMove.settleBounded {p : Sample} {s t : State} (hmove : EngineMove p s t) (hs : SettleBounded s) :
    SettleBounded t := by
  cases hmove with
  | unchanged => exact hs
  | readDeselect => exact ⟨Nat.le_refl _, fun h => absurd rfl h⟩
  | settleCount n hmode hsettle =>
    have hle := hs.le_polls
    exact ⟨by show n ≤ _; omega, fun h => absurd hmode h⟩
  | settleRelease _ hsettle => exact ⟨hs.le_polls, fun _ => hsettle⟩
  | enterRead _ hmode | enterWrite _ hmode | serveRead hmode | readToWrite hmode | writeDeselect hmode
  | tiedDeselect hmode | writeCommit hmode | doneDeselect hmode => exact hs.of_settle_eq (by simp [hmode]) rfl

/-- Settles O43: every move of the engine keeps the bound, and the outside leaves the count or sets it to 0. -/
theorem everyStepKeepsTheSettleCountBounded : Obligations.EveryStepKeepsTheSettleCountBounded := by
  intro s t hs hstep
  cases stepMove_of_step hstep with
  | engine _ hmove => exact hmove.settleBounded (hs.congr (polled_mode s) (polled_settle s))
  | lookup => exact hs.congr rfl rfl
  | observe => exact hs.congr rfl rfl
  | restart => exact ⟨Nat.zero_le _, fun _ => rfl⟩

/-- No row of the engine touches the agenda: the sample is used up before it runs. -/
theorem EngineMove.agenda {p : Sample} {s t : State} (hmove : EngineMove p s t) : t.agenda = s.agenda := by
  cases hmove <;> rfl

theorem polled_agenda_suffix (s : State) : (polled s).agenda <:+ s.agenda := by
  obtain h | ⟨p, rest, hagenda, h⟩ | h := polled_eq_or s
  · rw [h]
  · rw [h, hagenda]
    exact List.suffix_cons _ _
  · rw [h]

/-- A step adds nothing to what the outside does: it drops the head of the agenda or leaves it. -/
theorem step_agenda_suffix {s t : State} (hstep : step s = .next t) : t.agenda <:+ s.agenda := by
  cases stepMove_of_step hstep with
  | engine _ hmove =>
    rw [hmove.agenda]
    exact polled_agenda_suffix s
  | lookup hagenda | observe hagenda | restart hagenda =>
    rw [hagenda]
    exact List.suffix_cons _ _

/-- Settles O44: the free raw addresses are taken modulo the width, and a step lists no new ones. -/
theorem rawAddressesFitTheirLines : Obligations.RawAddressesFitTheirLines := by
  refine ⟨Nat.le_add_right _ _, fun n => Nat.mod_lt _ (Nat.two_pow_pos _), fun s t hs hstep p hp => ?_⟩
  exact hs p ((step_agenda_suffix hstep).subset hp)

/-- Settles O39: the fields of the reset state, and the two cases of the initial fill. -/
theorem resetIsIdleWithTheInitialFill : Obligations.ResetIsIdleWithTheInitialFill := by
  refine ⟨reset_mode, reset_bank, reset_settle, reset_dir, lines_of_input reset_dir, fun b a => ?_⟩
  rw [memRead, reset_mem, readCell_nil, initialCell]
  cases Config.preload with
  | none => rfl
  | some image => exact BitVec.eq_of_toNat_eq rfl

/-- Settles O40: Idle with Input, no bank, a count of 0, an empty Store and nothing listed. -/
theorem resetIsAGoodState : Obligations.ResetIsAGoodState := by
  refine ⟨⟨coherent_iff.2 ⟨rfl, rfl⟩, ⟨Nat.zero_le _, fun _ => rfl⟩, reset_mem_wf⟩, fun p hp => ?_⟩
  rw [reset_agenda] at hp
  cases hp

end Sys2Proof.Machine
end

section
/-! PROOFS. The statement on the output latch (10_state.md R26; log 5): while the direction is Input its value shows
nowhere, and the one row that turns the pins to Output drives it anew. -/

namespace Sys2Proof.Machine

/-- The state u is s with any value in the latch, where s does not show it. -/
def LatchHidden (s u : State) : Prop := ∃ v : Nibble, u = drive v s ∧ (s.dir = .output → v = s.out)

/-- The latch has no part in taking a sample. -/
theorem passSample_drive (v : Nibble) (s : State) : passSample (drive v s) = drive v (passSample s) := by
  simp only [passSample, drive_agenda]
  split <;> rfl

theorem polled_drive (v : Nibble) (s : State) : polled (drive v s) = drive v (polled s) := by
  simp only [polled, drive_mode, passSample_drive]
  split <;> rfl

/-- Every operation but SET_DIR called on its own keeps the latch hidden: it leaves the direction, sets it to Input, or
is an ENTER_READ, which drives the latch with the cell in both states (43_bus_engine.md R111). -/
theorem exec_latchHidden {i : Instr} (hi : i ≠ .setDir .output) {s u : State} (h : LatchHidden s u) :
    ∃ t w : State, exec i s = .next t ∧ exec i u = .next w ∧ LatchHidden t w := by
  obtain ⟨v, rfl, hdir⟩ := h
  cases i with
  | setDir d =>
    cases d with
    | output => exact absurd rfl hi
    | input => exact ⟨_, _, rfl, rfl, v, rfl, by simp⟩
  | enterReadB0 _ | enterReadB1 _ | enterReadB2 _ | enterReadB3 _ | enterReadB4 _ =>
    exact ⟨_, _, rfl, rfl, _, rfl, fun _ => rfl⟩
  | serveRead _ | drive _ => exact ⟨_, _, rfl, rfl, _, rfl, fun _ => rfl⟩
  | readToWrite _ | settleRelease => exact ⟨_, _, rfl, rfl, v, rfl, by simp⟩
  | enterWriteB0 _ | enterWriteB1 _ | enterWriteB2 _ | enterWriteB3 _ | enterWriteB4 _ =>
    exact ⟨_, _, rfl, rfl, v, rfl, by simp⟩
  | writeDeselect p =>
    refine ⟨_, _, exec_writeDeselect_eq p s, exec_writeDeselect_eq p (drive v s), v, ?_⟩
    split <;> exact ⟨rfl, hdir⟩
  | sample =>
    refine ⟨_, _, exec_sample_eq s, exec_sample_eq (drive v s), v, ?_, by simpa using hdir⟩
    rw [passSample_drive]
    rfl
  | _ => exact ⟨_, _, rfl, rfl, v, rfl, hdir⟩

/-- The engine calls SET_DIR only within a row: no sample and no settle count selects the primitive
(30_encoding.md R72). -/
theorem dispatch_ne_setDir (m : Mode) (settle : Nat) (p : Sample) (d : Dir) : dispatch m settle p ≠ .setDir d := by
  intro hrow
  by_cases hm : m = .readSettle
  · subst hm
    cases settle <;> cases hrow
  · have carried := (dispatch_carries hm settle p).sample
    rw [hrow] at carried
    cases carried

/-- A step takes states that differ in a hidden latch to such states. -/
theorem step_latchHidden {s u : State} (h : LatchHidden s u) :
    ∃ t w : State, step s = .next t ∧ step u = .next w ∧ LatchHidden t w := by
  obtain ⟨v, rfl, hdir⟩ := h
  have engine (hnext : engineNext s = true) :
      ∃ t w : State, step s = .next t ∧ step (drive v s) = .next w ∧ LatchHidden t w := by
    rw [step_of_engineNext hnext, step_of_engineNext (s := drive v s) hnext, polled_drive]
    exact exec_latchHidden (dispatch_ne_setDir _ _ _ _) ⟨v, rfl, by rw [polled_dir, polled_out]; exact hdir⟩
  cases hagenda : s.agenda with
  | nil => exact engine (engineNext_iff.2 (.inl hagenda))
  | cons input rest =>
    have hagenda' : (drive v s).agenda = input :: rest := hagenda
    cases input with
    | poll p => exact engine (engineNext_iff.2 (.inr ⟨p, rest, hagenda⟩))
    | lookup ce =>
      rw [step_of_run (turn_of_lookup hagenda), step_of_run (turn_of_lookup hagenda'), exec_decodeSelectCode,
        exec_decodeSelectCode]
      exact ⟨_, _, rfl, rfl, v, rfl, hdir⟩
    | observe b a =>
      exact ⟨_, _, step_of_outside (turn_of_observe hagenda), step_of_outside (turn_of_observe hagenda'), v, rfl, hdir⟩
    | restart =>
      exact ⟨_, _, step_of_outside (turn_of_restart hagenda), step_of_outside (turn_of_restart hagenda'), 0, rfl,
        fun _ => rfl⟩

/-- And so does a run of any length. -/
theorem runSteps_latchHidden (n : Nat) {s u : State} (h : LatchHidden s u) :
    ∃ t w : State, runSteps n s = .next t ∧ runSteps n u = .next w ∧ LatchHidden t w := by
  induction n generalizing s u with
  | zero => exact ⟨s, u, rfl, rfl, h⟩
  | succ n ih =>
    obtain ⟨s', u', hstep, hstep', h'⟩ := step_latchHidden h
    rw [runSteps_succ hstep, runSteps_succ hstep']
    exact ih h'

/-- A hidden latch is not on the lines. -/
theorem LatchHidden.lines_eq {s u : State} (h : LatchHidden s u) : lines s = lines u := by
  obtain ⟨v, rfl, hdir⟩ := h
  cases hd : s.dir with
  | input => rw [lines_of_input hd, lines_of_input (s := drive v s) hd]
  | output => rw [hdir hd, drive_eq_self_of_out rfl]

/-- Settles O56: with the direction Input any latch is hidden, and it stays hidden along both runs. -/
theorem undrivenLatchIsNeverSeen : Obligations.UndrivenLatchIsNeverSeen := by
  intro n s v hdir
  have hidden : LatchHidden s (drive v s) := ⟨v, rfl, by simp [hdir]⟩
  obtain ⟨t, u, hrun, hrun', h⟩ := runSteps_latchHidden n hidden
  have lines_eq := h.lines_eq
  obtain ⟨w, rfl, -⟩ := h
  exact ⟨t, drive w t, hrun, hrun', rfl, lines_eq⟩

end Sys2Proof.Machine
end

section
/-! PROOFS. The statements on the Store along a run (20_memory.md section 4, 43_bus_engine.md section 5): it takes the
run's commits, in order, and nothing else. -/

namespace Sys2Proof.Machine

/-- A run of n + 1 steps is a step and a run of n steps. -/
theorem runSteps_succ_iff {n : Nat} {s t : State} :
    runSteps (n + 1) s = .next t ↔ ∃ u : State, step s = .next u ∧ runSteps n u = .next t := by
  obtain ⟨u, hstep⟩ := everyStepAnswersANextState s
  simp [runSteps_succ hstep, hstep]

/-- A run goes on where its beginning ended. -/
theorem runSteps_add {m : Nat} {s u : State} (h : runSteps m s = .next u) (n : Nat) :
    runSteps (m + n) s = runSteps n u := by
  induction m generalizing s with
  | zero =>
    cases h
    rw [Nat.zero_add]
  | succ m ih =>
    obtain ⟨r, hstep, hrun⟩ := runSteps_succ_iff.1 h
    rw [Nat.add_right_comm, runSteps_succ hstep, ih hrun]

/-- The commits of a run are that of its first step and those of the rest, in order. -/
theorem commitsOf_succ {n : Nat} {s t : State} (h : step s = .next t) :
    commitsOf (n + 1) s = (commitOf s).toList ++ commitsOf n t := by
  simp [commitsOf, h]

/-- A cell's last commit after a first one is its last commit over the Store the first one leaves (20_memory.md R50). -/
theorem lastCommit_toList_append (b : Bank) (a : Addr) (c : Option (Bank × Addr × Nibble))
    (l : List (Bank × Addr × Nibble)) (m : Memory) :
    lastCommit b a (c.toList ++ l) (Memory.readCell b a m) =
      lastCommit b a l (Memory.readCell b a (storeAfter c m)) := by
  cases c with
  | none => rfl
  | some c =>
    obtain ⟨b', a', w⟩ := c
    simp [lastCommit, storeAfter, readCell_writeCell, eq_comm]

/-- A run adds nothing to what the outside does. -/
theorem runSteps_agenda_suffix {n : Nat} {s t : State} (hrun : runSteps n s = .next t) : t.agenda <:+ s.agenda := by
  induction n generalizing s with
  | zero =>
    cases hrun
    exact List.suffix_refl _
  | succ n ih =>
    obtain ⟨u, hstep, hrun⟩ := runSteps_succ_iff.1 hrun
    exact (ih hrun).trans (step_agenda_suffix hstep)

/-- A step that uses up no restart is no restart. -/
theorem agenda_ne_restart_of_used {s t : State} {used : List Input} (hstep : step s = .next t)
    (hused : s.agenda = used ++ t.agenda) (hno_restart : ∀ i ∈ used, i ≠ .restart) (rest : List Input) :
    s.agenda ≠ .restart :: rest := by
  intro hagenda
  rw [step_of_outside (turn_of_restart hagenda)] at hstep
  cases hstep
  have restart_used : [Input.restart] = used := List.append_cancel_right (hagenda.symm.trans hused)
  exact hno_restart .restart (by simp [← restart_used]) rfl

/-- After a run that uses up no restart each cell holds its last commit of the run: each step takes its commit to the
Store (`step_mem`), and the rest of the run starts from there (20_memory.md R50). -/
theorem memRead_of_runSteps {n : Nat} {s t : State} {used : List Input} (hrun : runSteps n s = .next t)
    (hused : s.agenda = used ++ t.agenda) (hno_restart : ∀ i ∈ used, i ≠ .restart) (b : Bank) (a : Addr) :
    memRead b a t = lastCommit b a (commitsOf n s) (memRead b a s) := by
  induction n generalizing s used with
  | zero =>
    cases hrun
    rfl
  | succ n ih =>
    obtain ⟨u, hstep, hrun⟩ := runSteps_succ_iff.1 hrun
    obtain ⟨first, hfirst⟩ := step_agenda_suffix hstep
    obtain ⟨later, hlater⟩ := runSteps_agenda_suffix hrun
    have split_used : used = first ++ later := by
      apply List.append_cancel_right (bs := t.agenda)
      rw [← hused, List.append_assoc, hlater, hfirst]
    rw [split_used, List.forall_mem_append] at hno_restart
    obtain ⟨hfirst_no, hlater_no⟩ := hno_restart
    have first_commit : memRead b a u = Memory.readCell b a (storeAfter (commitOf s) s.mem) := by
      rw [memRead, step_mem hstep (agenda_ne_restart_of_used hstep hfirst.symm hfirst_no)]
    calc memRead b a t
        = lastCommit b a (commitsOf n u) (memRead b a u) := ih hrun hlater.symm hlater_no
      _ = lastCommit b a ((commitOf s).toList ++ commitsOf n u) (memRead b a s) := by
        rw [first_commit, memRead, lastCommit_toList_append]
      _ = lastCommit b a (commitsOf (n + 1) s) (memRead b a s) := by rw [commitsOf_succ hstep]

/-- Settles O51: with no restart listed the run uses up none. -/
theorem everyCellHoldsItsLastCommit : Obligations.EveryCellHoldsItsLastCommit := by
  intro n s t hno_restart hrun b a
  obtain ⟨used, hused⟩ := runSteps_agenda_suffix hrun
  exact memRead_of_runSteps hrun hused.symm (fun i hi => hno_restart i (by simp [← hused, hi])) b a

/-- A cell to which nothing is committed keeps its value. -/
theorem lastCommit_of_no_commit {b : Bank} {a : Addr} {l : List (Bank × Addr × Nibble)} (v : Nibble)
    (h : ∀ c ∈ l, ¬(c.1 = b ∧ c.2.1 = a)) : lastCommit b a l v = v := by
  induction l with
  | nil => rfl
  | cons c l ih =>
    obtain ⟨hc, hl⟩ := List.forall_mem_cons.1 h
    rw [lastCommit, if_neg hc, ih hl]

/-- A listed poll leaves the rest of the agenda, or in ReadSettle the whole of it (43_bus_engine.md R119). -/
theorem step_listed_agenda {s t : State} {p : Pins} {rest : List Input} (hagenda : s.agenda = .poll p :: rest)
    (hstep : step s = .next t) : t.agenda = s.agenda ∨ t.agenda = rest := by
  rw [(engineMove_of_step (engineNext_iff.2 (.inr ⟨p, rest, hagenda⟩)) hstep).agenda]
  by_cases hmode : s.mode = .readSettle
  · exact .inl (by rw [polled_of_readSettle hmode])
  · exact .inr (by rw [polled_of_ne_readSettle hmode, passSample_of_poll hagenda, withAgenda_agenda])

/-- A listed poll with the strobe low leaves the Store (43_bus_engine.md R122, R123). -/
theorem step_strobe_low_mem {s t : State} {p : Pins} {rest : List Input} (hagenda : s.agenda = .poll p :: rest)
    (hwe : p.we = false) (hstep : step s = .next t) : t.mem = s.mem := by
  have no_commit : commitOf s = none := by simp [commitOf, busSample_of_poll hagenda, Pins.toSample, hwe]
  rw [step_mem hstep (by simp [hagenda]), no_commit, storeAfter]

/-- Settles O53, by induction on the steps: each one leaves the Store, and what is listed still begins with enough
samples that show the strobe low. -/
theorem strobeNeverHighNeverCommits : Obligations.StrobeNeverHighNeverCommits := by
  intro ps n
  induction n generalizing ps with
  | zero => exact fun s _ _ _ _ => ⟨s, rfl, rfl⟩
  | succ n ih =>
    intro s rest hps hlength hagenda
    cases ps with
    | nil => cases hlength
    | cons p ps =>
      obtain ⟨u, hstep⟩ := everyStepAnswersANextState s
      have hlength' : n ≤ ps.length := Nat.le_of_succ_le_succ hlength
      have hmem : u.mem = s.mem := step_strobe_low_mem hagenda (hps p List.mem_cons_self) hstep
      have hrest : ∃ t, runSteps n u = .next t ∧ t.mem = u.mem := by
        obtain hsame | hdropped := step_listed_agenda hagenda hstep
        · exact ih (p :: ps) u rest hps (Nat.le_of_succ_le hlength) (hsame.trans hagenda)
        · exact ih ps u rest (List.forall_mem_cons.1 hps).2 hlength' hdropped
      obtain ⟨t, hrun, ht⟩ := hrest
      exact ⟨t, (runSteps_succ hstep).trans hrun, ht.trans hmem⟩

end Sys2Proof.Machine
end

section
/-! PROOFS. The engine's statements on whole transactions and scripts (43_bus_engine.md sections 4 to 6, 30_encoding.md
section 5; log 14, 16, 23). -/

namespace Sys2Proof.Machine

/-- In every mode but ReadSettle a listed poll runs the dispatcher's row of its pin levels (43_bus_engine.md R110). -/
theorem step_listed {s : State} {p : Pins} {rest : List Input} (hmode : s.mode ≠ .readSettle)
    (hagenda : s.agenda = .poll p :: rest) :
    step s = exec (dispatch s.mode s.settle p.toSample) (withAgenda rest s) := by
  rw [step_of_engineNext (engineNext_iff.2 (.inr ⟨p, rest, hagenda⟩)), busSample_of_poll hagenda,
    polled_of_ne_readSettle hmode, passSample_of_poll hagenda]

/-- Settles O54, by induction on the samples: each one selects DONE_WAIT, which changes nothing. -/
theorem oneCommitPerSelection : Obligations.OneCommitPerSelection := by
  intro ps
  induction ps with
  | nil =>
    intro s rest _ _ hagenda
    cases hagenda
    rfl
  | cons p ps ih =>
    intro s rest hps hmode hagenda
    obtain ⟨hce, hps⟩ := List.forall_mem_cons.1 hps
    have row : dispatch s.mode s.settle p.toSample = .doneWait p.toSample := by
      rw [hmode, dispatch, if_neg (show p.toSample.ce ≠ _ from hce)]
    have hstep : step s = .next (withAgenda (ps.map Input.poll ++ rest) s) := by
      rw [step_listed (by simp [hmode]) hagenda, row]
      rfl
    rw [List.length_cons, runSteps_succ hstep]
    exact ih (withAgenda (ps.map Input.poll ++ rest) s) rest hps hmode rfl

/-- In ReadSettle k steps take k off a count that is at least k (43_bus_engine.md R120; log 16). -/
theorem runSteps_settling (k : Nat) {n : Nat} {s : State} (hmode : s.mode = .readSettle) (hnext : engineNext s = true)
    (hsettle : s.settle = n + k) : runSteps k s = .next { s with settle := n } := by
  induction k generalizing s with
  | zero =>
    cases hsettle
    rfl
  | succ k ih =>
    obtain ⟨row, hexec⟩ := settleCountTakesOneOff s (n + k) hsettle
    have hstep : step s = .next (setSettle (n + k) s) := by rw [step_of_readSettle hmode hnext, row, hexec]; rfl
    rw [runSteps_succ hstep]
    exact ih hmode hnext rfl

/-- At a count of 0 the next step releases the lines (43_bus_engine.md R121). -/
theorem step_release {s : State} (hmode : s.mode = .readSettle) (hnext : engineNext s = true) (hsettle : s.settle = 0) :
    step s = .next { s with dir := .input, mode := .idle } := by
  obtain ⟨row, hexec⟩ := settleReleaseReturnsToIdle s hsettle
  rw [step_of_readSettle hmode hnext, row, hexec]

/-- A listed deselect code ends a read with the settle delay loaded and the lines held (43_bus_engine.md R118). -/
theorem step_read_deselect {s : State} {p : Pins} {rest : List Input} {b : Bank} (hmode : s.mode = .selRead)
    (hbank : s.bank = some b) (hce : p.ce = 0b11111#5) (hagenda : s.agenda = .poll p :: rest) :
    step s = .next { s with
      bank := none
      settle := Config.settlePolls
      mode := .readSettle
      observer := heard [.deselect b] s.observer
      agenda := rest } := by
  obtain ⟨row, hexec⟩ := readDeselectLoadsTheSettleDelay p.toSample (withAgenda rest s) b hce hbank
  rw [step_selRead_of_poll hmode hagenda, row, hexec]
  rfl

/-- Settles O48: after the deselection the count runs down from SETTLE_POLLS (`runSteps_settling`), and the step at 0
releases the lines. -/
theorem readDeselectionHoldsTheLinesForTheSettleWindow :
    Obligations.ReadDeselectionHoldsTheLinesForTheSettleWindow := by
  intro s p rest b hmode hbank hdir hce hagenda hnext
  have hstep := step_read_deselect hmode hbank hce hagenda
  have window (k : Nat) (hk : k ≤ Config.settlePolls) : runSteps (k + 1) s = .next { s with
      bank := none
      settle := Config.settlePolls - k
      mode := .readSettle
      observer := heard [.deselect b] s.observer
      agenda := rest } := by
    rw [runSteps_succ hstep]
    exact runSteps_settling k rfl hnext (Nat.sub_add_cancel hk).symm
  refine ⟨window, ?_⟩
  have ended := window Config.settlePolls (Nat.le_refl _)
  rw [Nat.sub_self] at ended
  rw [runSteps_add ended 1]
  exact runSteps_succ (step_release rfl hnext rfl)

theorem bankCode_ne_deselect (b : Bank) : bankCode b ≠ 0b11111#5 := by
  revert b
  decide

/-- Where a write transaction is: the mode and the bank of the stage, the pins at Input, the Store and what is to
come. -/
structure WriteStage (mode : Mode) (bank : Option Bank) (mem : Memory) (agenda : List Input) (s : State) : Prop where
  mode : s.mode = mode
  bank : s.bank = bank
  dir : s.dir = .input
  mem : s.mem = mem
  agenda : s.agenda = agenda

/-- In Idle a listed poll of a bank's code with the strobe low enters a write of the bank (43_bus_engine.md R112). -/
theorem step_enter_write {s : State} {p : Pins} {rest : List Input} {b : Bank} (hmode : s.mode = .idle)
    (hce : p.ce = bankCode b) (hwe : p.we = false) (hagenda : s.agenda = .poll p :: rest) :
    ∃ t : State, step s = .next t ∧ WriteStage .selWrite (some b) s.mem rest t := by
  have row : dispatch .idle s.settle p.toSample = writeEntry b p.toSample := by
    rw [dispatch_idle_of_bankCode (p := p.toSample) s.settle hce, show p.toSample.we = false from hwe]
    rfl
  rw [step_listed (by simp [hmode]) hagenda, hmode, row, exec_writeEntry, enterWrite_eq]
  exact ⟨_, rfl, rfl, rfl, rfl, rfl, rfl⟩

/-- In SelWrite a listed poll of a code other than 11111 with the strobe high commits (43_bus_engine.md R124). -/
theorem step_commit {s : State} {p : Pins} {m : Memory} {rest : List Input} {b : Bank}
    (hs : WriteStage .selWrite (some b) m (.poll p :: rest) s) (hce : p.ce ≠ 0b11111#5) (hwe : p.we = true) :
    ∃ t : State, step s = .next t ∧
      WriteStage .selWriteDone (some b) (Memory.writeCell b (maskAddr p.rawAddr) p.data m) rest t := by
  obtain ⟨hmode, hbank, hdir, rfl, hagenda⟩ := hs
  have row : dispatch .selWrite s.settle p.toSample = .writeCommit p.toSample := by
    simp [dispatch, Pins.toSample, hce, hwe]
  have latched : latchedBank (withAgenda rest s) = b := latchedBank_of_some hbank
  rw [step_listed (by simp [hmode]) hagenda, hmode, row, exec_writeCommit_eq]
  exact ⟨_, rfl, rfl, hbank, hdir, by rw [setMode_mem, commit_mem, latched]; rfl, rfl⟩

/-- In SelWriteDone a listed deselect code ends the write (43_bus_engine.md R126). -/
theorem step_done_deselect {s : State} {p : Pins} {m : Memory} {rest : List Input} {b : Bank}
    (hs : WriteStage .selWriteDone (some b) m (.poll p :: rest) s) (hce : p.ce = 0b11111#5) :
    ∃ t : State, step s = .next t ∧ WriteStage .idle none m rest t := by
  obtain ⟨hmode, -, hdir, rfl, hagenda⟩ := hs
  have row : dispatch .selWriteDone s.settle p.toSample = .doneDeselect p.toSample := by
    simp [dispatch, Pins.toSample, hce]
  rw [step_listed (by simp [hmode]) hagenda, hmode, row, exec_doneDeselect_eq, leaveWrite_eq]
  exact ⟨_, rfl, rfl, rfl, hdir, rfl, rfl⟩

/-- WR b, a, v from Idle: entry, commit, deselection; the Store takes the one write (30_encoding.md R71). -/
theorem runSteps_writeScript {s : State} {b : Bank} {a : Nat} {v : Nibble} {rest : List Input} (hmode : s.mode = .idle)
    (hagenda : s.agenda = writeScript b a v ++ rest) :
    ∃ t : State, runSteps 3 s = .next t ∧ WriteStage .idle none (Memory.writeCell b (maskAddr a) v s.mem) rest t := by
  obtain ⟨s₁, hstep₁, h₁⟩ := step_enter_write hmode rfl rfl hagenda
  obtain ⟨s₂, hstep₂, h₂⟩ := step_commit h₁ (bankCode_ne_deselect b) rfl
  obtain ⟨s₃, hstep₃, h₃⟩ := step_done_deselect h₂ rfl
  exact ⟨s₃, by rw [runSteps_succ hstep₁, runSteps_succ hstep₂, runSteps_succ hstep₃]; rfl, h₃⟩

/-- Settles O49: the run's one write is of the cell (b, a mod 1024). -/
theorem writeTransactionChangesOneCell : Obligations.WriteTransactionChangesOneCell := by
  intro s b a v rest hmode hagenda
  obtain ⟨t, hrun, ht⟩ := runSteps_writeScript hmode hagenda
  refine ⟨t, hrun, ht.mode, ht.bank, lines_of_input ht.dir, ht.agenda, fun b' a' => ?_⟩
  rw [memRead, ht.mem, readCell_writeCell, maskAddr_eq_mod, memRead]

/-- In Idle the first sample of RD b, a selects the bank for read and drives the cell (43_bus_engine.md R111, R116). -/
theorem step_readScript {s : State} {b : Bank} {a : Nat} {rest : List Input} (hmode : s.mode = .idle)
    (hagenda : s.agenda = readScript b a ++ rest) :
    ∃ t : State, step s = .next t ∧
      lines t = some (memRead b (maskAddr a) s) ∧ t.mode = .selRead ∧ t.bank = some b := by
  have row : dispatch .idle s.settle (Pins.toSample ⟨a, bankCode b, true, 0⟩) =
      readEntry b (Pins.toSample ⟨a, bankCode b, true, 0⟩) := dispatch_idle_of_bankCode s.settle rfl
  rw [step_listed (by simp [hmode]) hagenda, hmode, row, exec_readEntry, enterRead_eq]
  exact ⟨_, rfl, lines_of_output rfl, rfl, rfl⟩

/-- In Idle the samples of IDLE n change nothing (43_bus_engine.md R113). -/
theorem runSteps_idleScript (n : Nat) {s : State} {rest : List Input} (hmode : s.mode = .idle)
    (hagenda : s.agenda = idleScript n ++ rest) : runSteps n s = .next (withAgenda rest s) := by
  induction n generalizing s with
  | zero =>
    cases hagenda
    rfl
  | succ n ih =>
    have hstep : step s = .next (withAgenda (idleScript n ++ rest) s) := by
      rw [step_listed (by simp [hmode]) hagenda, hmode]
      rfl
    rw [runSteps_succ hstep]
    exact ih hmode rfl

/-- Settles O50: the write leaves v in the cell, where only a commit to it could change it (`memRead_of_runSteps`), and
the entry to the read drives what the cell holds. -/
theorem writeThenReadReturnsTheValue : Obligations.WriteThenReadReturnsTheValue := by
  have same_cell {a a' : Nat} (ha : a % 1024 = a' % 1024) : maskAddr a' = maskAddr a := by
    rw [maskAddr_eq_mod, maskAddr_eq_mod, ha]
  have written (b : Bank) (a : Nat) (v : Nibble) {m : Memory} {rest : List Input} {w : State}
      (hw : WriteStage .idle none (Memory.writeCell b (maskAddr a) v m) rest w) : memRead b (maskAddr a) w = v := by
    rw [memRead, hw.mem, readCell_writeCell, if_pos ⟨rfl, rfl⟩]
  constructor
  · intro n s b a a' v rest hmode ha hagenda
    rw [List.append_assoc, List.append_assoc] at hagenda
    obtain ⟨w, hrun, hw⟩ := runSteps_writeScript hmode hagenda
    obtain ⟨t, hstep, hlines, htmode, htbank⟩ :=
      step_readScript (s := withAgenda (readScript b a' ++ rest) w) hw.mode rfl
    refine ⟨t, ?_, ?_, htmode, htbank⟩
    · rw [Nat.add_assoc, runSteps_add hrun, runSteps_add (runSteps_idleScript n hw.mode hw.agenda), runSteps_succ hstep]
      rfl
    · rw [hlines, same_cell ha, ← written b a v hw]
      rfl
  · intro m s w u b a a' v between rest hmode ha hno_restart hagenda hrun hno_commit hrun' humode huagenda
    rw [List.append_assoc, List.append_assoc] at hagenda
    obtain ⟨w', hrun_write, hw⟩ := runSteps_writeScript hmode hagenda
    cases hrun.symm.trans hrun_write
    have used : w.agenda = between ++ u.agenda := by rw [hw.agenda, huagenda]
    have kept : memRead b (maskAddr a) u = v := by
      rw [memRead_of_runSteps hrun' used hno_restart, lastCommit_of_no_commit _ hno_commit, written b a v hw]
    obtain ⟨t, hstep, hlines, -⟩ := step_readScript humode huagenda
    exact ⟨t, hstep, by rw [hlines, same_cell ha, kept]⟩

/-- How many steps the settle delay has left. -/
def settleLeft (s : State) : Nat := if s.mode = .readSettle then s.settle + 1 else 0

/-- While the runner goes on, a step uses up an input, or takes one off the settle delay and uses up none
(30_encoding.md R70). -/
theorem step_of_scriptGoesOn {s t : State} (hon : scriptGoesOn s = true) (hstep : step s = .next t) :
    t.agenda.length < s.agenda.length ∨ t.agenda = s.agenda ∧ settleLeft t < settleLeft s := by
  cases stepMove_of_step hstep with
  | lookup hagenda | observe hagenda | restart hagenda =>
    left
    rw [hagenda]
    exact Nat.lt_succ_self _
  | engine hnext hmove =>
    by_cases hmode : s.mode = .readSettle
    · rw [polled_of_readSettle hmode] at hmove
      refine .inr ⟨hmove.agenda, ?_⟩
      cases hmove with
      | settleCount n _ hsettle => simp [settleLeft, hmode, hsettle]
      | settleRelease => simp [settleLeft, hmode]
      | unchanged h => exact absurd hmode h
      | enterRead _ h | enterWrite _ h | serveRead h | readToWrite h | readDeselect h | writeDeselect h | tiedDeselect h
      | writeCommit h | doneDeselect h => cases hmode.symm.trans h
    · have listed : s.agenda ≠ [] := by simpa [scriptGoesOn, hmode] using hon
      obtain ⟨p, rest, hagenda⟩ := (engineNext_iff.1 hnext).resolve_left listed
      left
      rw [hmove.agenda, polled_of_ne_readSettle hmode, passSample_of_poll hagenda, hagenda]
      exact Nat.lt_succ_self _

/-- The runner goes on after a step of its own. -/
theorem runScript_succ {n : Nat} {s t : State} (hon : scriptGoesOn s = true) (hstep : step s = .next t) :
    runScript (n + 1) s = runScript n t := by
  simp [runScript, hon, hstep]

/-- The runner stops by itself, by induction on the inputs left and then on the steps the settle delay has left. -/
theorem runScript_ends (s : State) :
    ∃ (n : Nat) (t : State), runScript n s = .next t ∧ t.agenda = [] ∧ t.mode ≠ .readSettle := by
  cases hon : scriptGoesOn s with
  | false => exact ⟨0, s, rfl, by simpa [scriptGoesOn, and_comm] using hon⟩
  | true =>
    obtain ⟨t, hstep⟩ := everyStepAnswersANextState s
    have decreases := step_of_scriptGoesOn hon hstep
    obtain ⟨n, u, hrun, hu⟩ := runScript_ends t
    exact ⟨n + 1, u, (runScript_succ hon hstep).trans hrun, hu⟩
termination_by (s.agenda.length, settleLeft s)
decreasing_by exact Prod.lex_def.2 (decreases.imp id fun h => ⟨congrArg List.length h.1, h.2⟩)

/-- Settles O57: every step of the runner brings it closer to its end (`step_of_scriptGoesOn`). -/
theorem scriptRunEndsOutsideReadSettle : Obligations.ScriptRunEndsOutsideReadSettle := runScript_ends

end Sys2Proof.Machine
end
